-- ==== Sys2Proof/Word.lean ====
section
/-!
DEFINITION. The word types of the block: register words, frequencies, command and response words.
-/

namespace Sys2Proof

/-- A register word: every register the block accesses is 32 bits wide and accessed whole (R8). -/
abbrev Word := BitVec 32

/-- A frequency in hertz, unsigned 64 bits (R9). -/
abbrev Freq := BitVec 64

/-- A request: the 66-bit word `req_freq` above `req_op` (R63). -/
abbrev CommandWord := BitVec 66

/-- A response: the 67-bit word `rsp_freq` above `rsp_status` (R64). -/
abbrev ResponseWord := BitVec 67

end Sys2Proof
end

