-- ==== Sys2Proof/Config.lean ====
section
/-!
DEFINITION. What is fixed for one instance (R17), what construction is given (R36), and the free values.
-/

namespace Sys2Proof

/-- The closed set of variants (R4). -/
inductive Variant where
  | coreClock
  | systemPll
  | hdmiPll
  deriving DecidableEq, Repr

/-- `CTRL_READBACK`: what a read of CTRL returns (R12). -/
inductive Readback where
  /-- The last word the block wrote, or the power-on value. -/
  | storage
  /-- Any word: a draw at every read. -/
  | oracle
  deriving DecidableEq, Repr

/-- `BUS_BYTE_ORDER`, which no rule reads (R45). -/
inductive ByteOrder where
  | little
  | big
  deriving DecidableEq, Repr

/-- A Divider Configuration: the codes are raw register-field values (R61). -/
structure DividerConfiguration where
  target : Freq
  idiv : BitVec 5
  fbdiv : BitVec 7
  odiv : BitVec 2
  band : BitVec 12
  deriving DecidableEq, Repr

/-- A Rate Table: an ordered list, ended by its first entry with target 0 or by the list's end (R62, R69). -/
abbrev RateTable := List DividerConfiguration

/-- A register region on the bus: `size` bytes from `base` (R40). -/
structure Region where
  base : Nat
  size : Nat
  deriving DecidableEq, Repr

/-- The configuration record of one instance, never changed while it exists (R17). -/
structure Config where
  variant : Variant
  mainBase : Nat
  auxBase : Option Nat
  addrWidth : Nat
  /-- `REF_HZ`; construction requires it below 2^56 (R5). -/
  refHz : BitVec 56
  /-- `THRESHOLD_HZ` (R6). -/
  thresholdHz : Freq
  /-- `LOCK_WAIT_US` (R7). -/
  lockWaitUs : Nat
  /-- `TICKS_PER_US` (R13). DESIGN CHOICE: 0 is the timeless model (notes/assumptions/9.md); safe. -/
  ticksPerUs : Nat
  auxDiv1Code : Word
  auxDiv2Code : Word
  ctrlReadback : Readback
  busByteOrder : ByteOrder
  /-- The Rate Table selected by the variant (R68). -/
  table : RateTable
  /-- The register regions of the other instances on the bus (R44, R115 item 8). -/
  otherRegions : List Region
  deriving DecidableEq, Repr

/-- A table entry as a table's author writes it: small non-negative integers of no fixed width (R61). -/
structure RawEntry where
  target : Nat
  idiv : Nat
  fbdiv : Nat
  odiv : Nat
  band : Nat
  deriving DecidableEq, Repr

/-- The two Rate Tables of a system, as their author writes them: constants that every instance reads and none owns,
`generic` for CoreClock and SystemPll, `hdmi` for HdmiPll (R14, R18, R68, R111). -/
structure RateTables where
  generic : List RawEntry
  hdmi : List RawEntry
  deriving DecidableEq, Repr

/-- What the construction of one instance is given besides the system's Rate Tables (R10, R17, R36), before any
check. -/
structure ConstructionInputs where
  variant : Variant
  mainBase : Option Nat
  auxBase : Option Nat
  addrWidth : Nat
  refHz : Nat := 33333333
  thresholdHz : Freq := 500000000
  lockWaitUs : Nat := 100
  ticksPerUs : Nat := 0
  auxDiv1Code : Word
  auxDiv2Code : Word
  ctrlReadback : Readback := .storage
  busByteOrder : ByteOrder := .little
  deriving DecidableEq, Repr

/-- Which check of R115 a configuration fails: all are the one error kind `ConstructionError` (R100). -/
inductive ConstructionError where
  /-- Item 1: CoreClock without `AUX_BASE`. -/
  | auxBaseMissing
  /-- Item 2: no `MAIN_BASE`. -/
  | mainBaseMissing
  /-- Item 3: a base that is no multiple of 4. -/
  | misalignedBase
  /-- Item 4: a register address outside `ADDR_WIDTH` bits. -/
  | addressTooWide
  /-- Item 5: the selected Rate Table is not well formed. -/
  | illFormedTable
  /-- Item 6: the two AUX codes are equal. -/
  | equalAuxCodes
  /-- Item 7: `REF_HZ` is 2^56 or more. -/
  | referenceTooFast
  /-- Item 8: register regions overlap. -/
  | overlappingRegions
  deriving DecidableEq, Repr

/-- The STATUS word the PLL answers, as a free value (R93): nothing constrains it (notes/assumptions/5.md); safe. -/
opaque Config.freeStatus : Nat → Word

/-- The CTRL word the PLL answers under `Oracle`, as a free value (R12; notes/assumptions/6.md); safe. -/
opaque Config.freeCtrl : Nat → Word

/-- The PLL's own reset value of CTRL, drawn once (R38, U1; notes/assumptions/3.md); safe. -/
opaque Config.ctrlAtPowerOn : Word

/-- The value of AUX before the block first writes it (R38, U3; notes/assumptions/3.md); safe. -/
opaque Config.auxAtPowerOn : Word

/-- The fixture table `T_G` of 95_test_vectors.md; only its second entry is the source's (R14). -/
def Config.fixtureTable : RateTable :=
  [⟨100000000, 0, 11, 3, 0⟩, ⟨233000000, 1, 27, 2, 0⟩, ⟨300000000, 1, 35, 2, 0⟩,
   ⟨500000000, 0, 14, 1, 0⟩, ⟨600000000, 0, 17, 1, 0⟩]

/-- The instance `core` of 95_test_vectors.md, beside `sys` and `hdmi`.
DESIGN CHOICE: the configuration of `State.reset`, since R17 leaves it to the platform
(notes/assumptions/2.md); unsafe. `REF_HZ`, `THRESHOLD_HZ` and `LOCK_WAIT_US` are the hardware's (R5 to R7). -/
def Config.fixtureCore : Config where
  variant := .coreClock
  mainBase := 0x1000
  auxBase := some 0x2000
  addrWidth := 32
  refHz := 33333333
  thresholdHz := 500000000
  lockWaitUs := 100
  ticksPerUs := 0
  auxDiv1Code := 0
  auxDiv2Code := 1
  ctrlReadback := .storage
  busByteOrder := .little
  table := Config.fixtureTable
  otherRegions := [⟨0x1010, 16⟩, ⟨0x1020, 16⟩]

end Sys2Proof
end

