-- ==== Sys2Proof/Syntax.lean ====
section
/-!
DEFINITION. The three commands of the block (R3, R63), its "instructions".
-/

namespace Sys2Proof

/-- The commands, one constructor per row of the opcode table. Every command word carries 64 operand bits (R63). -/
inductive Instr where
  /-- GET_RATE: the operand bits are ignored (R63, R81), though acceptance latches them (R33). -/
  | getRate (operand : Freq)
  /-- SET_RATE with the requested frequency (R84). -/
  | setRate (freq : Freq)
  /-- ROUND_RATE with the requested frequency (R75). -/
  | roundRate (freq : Freq)
  deriving DecidableEq, Repr

/-- The command codes that have a meaning (R63); 0b11 is reserved and stands for no command (R65). -/
inductive Op where
  | getRate
  | setRate
  | roundRate
  deriving DecidableEq, Repr

/-- The command a command word selects. -/
def Instr.op : Instr → Op
  | .getRate _ => .getRate
  | .setRate _ => .setRate
  | .roundRate _ => .roundRate

/-- The 64 operand bits of a command. -/
def Instr.operand : Instr → Freq
  | .getRate f => f
  | .setRate f => f
  | .roundRate f => f

/-- The command of a code with an operand. -/
def Instr.ofOp : Op → Freq → Instr
  | .getRate, f => .getRate f
  | .setRate, f => .setRate f
  | .roundRate, f => .roundRate f

end Sys2Proof
end

