-- ==== Sys2Proof/Machine/State.lean ====
section
/-!
DEFINITION. The state of one block instance, what it records, its ports, and its state after reset.
-/

namespace Sys2Proof.Machine

/-- The nine states of the Sequencer (R82); the codes 0x9 to 0xF are never entered and do not exist here (U22). -/
inductive Fsm where
  | idle
  | matching
  | pre
  | program
  | wait
  | check
  | post
  | getrd
  | resp
  deriving DecidableEq, Repr

/-- The response statuses (R64); the codes 4 to 7 are never produced and do not exist here (U22). -/
inductive RspStatus where
  | ok
  | invalidConfiguration
  | lockTimeout
  | hardwareError
  deriving DecidableEq, Repr

/-- The errors a command can report (R100). -/
inductive CommandError where
  | invalidConfiguration
  | lockTimeout
  | hardwareError
  deriving DecidableEq, Repr

/-- One entry of the event history (R32). -/
inductive Event where
  /-- A `MemWrite` of a word at an address. -/
  | write (addr : Nat) (value : Word)
  /-- A `MemRead` at an address, with the word it returned. -/
  | read (addr : Nat) (value : Word)
  /-- The FSM left WAIT. -/
  | waitDone
  deriving DecidableEq, Repr

/-- Why the machine stops with a fault. -/
inductive Fault where
  /-- Raised by a command's meaning in an FSM state that is not on the command's path, where R83 gives the
  command no transition. No run reaches such a state (notes/assumptions/10.md); safe. -/
  | noTransition (state : Fsm)
  deriving DecidableEq, Repr

/-- Why the machine gives no meaning. -/
inductive Refusal where
  /-- Raised by `exec` for an instruction that has no meaning in this model; no arm raises it; safe. -/
  | notModelled (mnemonic : String)
  /-- Raised by `step` for a request with the reserved command code 0b11 (R65, R106); safe. -/
  | reservedCommand
  /-- Raised by `step` for a configuration that fails a construction check, which yields no instance (R115, R106), and
  by the AUX writes where there is no `AUX_BASE` (check 1); safe. -/
  | constructionFailed
  deriving DecidableEq, Repr

/-- One block instance, the PLL registers it reaches, what a model records, and its ports.
The configuration stands here because the host's step takes a state alone; no step changes it
(R17; notes/assumptions/1.md). -/
structure State where
  config : Config
  /-- The FSM state register (R20). -/
  fsm : Fsm
  /-- The request latch (R21). -/
  reqOp : Op
  reqFreq : Freq
  /-- The configuration latch (R22). -/
  cfg : DividerConfiguration
  /-- The response latch (R23). -/
  rspStatus : RspStatus
  rspFreq : Freq
  /-- Ticks elapsed in WAIT (R24). -/
  waitTimer : Nat
  /-- CTRL (R26). -/
  ctrl : Word
  /-- AUX (R29). -/
  aux : Word
  /-- The last value the block wrote to AUX since reset (R31). -/
  auxLast : Option Word
  /-- Every bus transaction and `WaitDone`, oldest first (R32). -/
  history : List Event
  /-- The reset input (R114). -/
  resetIn : Bool
  /-- The request port's inputs (R33). -/
  reqValid : Bool
  reqOpIn : BitVec 2
  reqFreqIn : Freq
  /-- The response port's input (R34). -/
  rspReady : Bool
  /-- The PLL's coming answers to STATUS reads, oldest first; the model's own field (notes/assumptions/5.md). -/
  statusAnswers : List Word
  /-- The PLL's coming answers to CTRL reads under `Oracle`; the model's own field (notes/assumptions/6.md). -/
  ctrlAnswers : List Word
  /-- How many free values have been taken; the model's own field (notes/assumptions/5.md). -/
  draws : Nat
  deriving DecidableEq, Repr

/-- The three outcomes of a step of this machine. -/
abbrev Result := Host.Outcome State Fault Refusal

/-- An instance of configuration `c` right after bring-up and reset (R38, R114, R116), where the PLL's own reset
left CTRL and AUX at the given words (U1, U3).
DESIGN CHOICE: the latches R38 leaves unspecified hold zeros, GET_RATE and OK (notes/assumptions/4.md), unsafe; the
ports carry no request and a ready requester (notes/assumptions/7.md), unsafe. -/
def State.bringUp (c : Config) (ctrl aux : Word) : State where
  config := c
  fsm := .idle
  reqOp := .getRate
  reqFreq := 0
  cfg := ⟨0, 0, 0, 0, 0⟩
  rspStatus := .ok
  rspFreq := 0
  waitTimer := 0
  ctrl := ctrl
  aux := aux
  auxLast := none
  history := []
  resetIn := false
  reqValid := false
  reqOpIn := 0
  reqFreqIn := 0
  rspReady := true
  statusAnswers := []
  ctrlAnswers := []
  draws := 0

/-- The machine right after reset (R38). CTRL and AUX are free values (notes/assumptions/3.md), safe.
DESIGN CHOICE: the configuration is the fixture instance `core` (notes/assumptions/2.md), unsafe. -/
def State.reset : State :=
  State.bringUp Config.fixtureCore Config.ctrlAtPowerOn Config.auxAtPowerOn

end Sys2Proof.Machine
end

