-- ==== Sys2Proof/Machine/Flags.lean ====
section
/-!
DEFINITION. The flag bits of the PLL's words (R30) and the conditions the FSM tests (R83, R88).
-/

namespace Sys2Proof.Machine

/-- CTRL.PD, bit 0 of a control word: powered down (R55). -/
def powerdownBit (w : Word) : Bool := w.getLsbD 0

/-- CTRL.BYPASS, bit 1 of a control word: the output is the reference (R55). -/
def bypassBit (w : Word) : Bool := w.getLsbD 1

/-- STATUS.LOCK, bit 0 of a status word (R59). -/
def lockBit (w : Word) : Bool := w.getLsbD 0

/-- STATUS.ERR, bit 1 of a status word (R59). -/
def errBit (w : Word) : Bool := w.getLsbD 1

/-- The lock and error check of a status word: the lock bit first, the error bit only with it (R92, R103);
`none` is a passed check. Bits 31:2 are ignored. -/
def statusError (w : Word) : Option CommandError :=
  if lockBit w = false then some .lockTimeout
  else if errBit w = true then some .hardwareError
  else none

/-- A requested frequency above `THRESHOLD_HZ` (R6, R88). -/
def aboveThreshold (c : Config) (f : Freq) : Bool := decide (c.thresholdHz.toNat < f.toNat)

/-- The variant that performs the interface-divider workaround (R4, R85). -/
def isCoreClock (c : Config) : Bool :=
  match c.variant with
  | .coreClock => true
  | .systemPll => false
  | .hdmiPll => false

/-- PRE is taken by CoreClock for a request above the threshold (R88, R89). -/
def needsPre (s : State) : Bool := isCoreClock s.config && aboveThreshold s.config s.reqFreq

/-- POST is taken by CoreClock for a request at or below the threshold (R88, R94). -/
def needsPost (s : State) : Bool := isCoreClock s.config && !aboveThreshold s.config s.reqFreq

/-- How many ticks WAIT lasts (R91). -/
def waitTicks (c : Config) : Nat := c.lockWaitUs * c.ticksPerUs

/-- WAIT's exit condition: `LOCK_WAIT_US` has elapsed since the CTRL write (R83, R91). -/
def waitElapsed (s : State) : Bool := decide (waitTicks s.config ≤ s.waitTimer)

end Sys2Proof.Machine
end

