-- ==== Sys2Proof/WellFormed.lean ====
section
/-!
DEFINITION. Which requests are well formed. The configuration's checks (R115) are in Machine/Construction.lean.
-/

namespace Sys2Proof

/-- A request as the text or the port gives it, before it is known to be a command: a code and a number. -/
structure Request where
  op : BitVec 2
  freq : Nat
  deriving DecidableEq, Repr

/-- A conforming requester never issues code 0b11 (R65). -/
def Request.codeDefined (r : Request) : Bool := r.op != 3

/-- The frequency operand is below 2^64 (R63, R67). -/
def Request.freqFits (r : Request) : Bool := decide (r.freq < 2 ^ 64)

/-- Both checks of a request. -/
def Request.wellFormed (r : Request) : Bool := r.codeDefined && r.freqFits

/-- A command as a request. -/
def Instr.toRequest : Instr → Request
  | .getRate f => ⟨0, f.toNat⟩
  | .setRate f => ⟨1, f.toNat⟩
  | .roundRate f => ⟨2, f.toNat⟩

/-- A command is well formed when its request is. Its operand fits by its type, so every command is. -/
def Instr.wellFormed (i : Instr) : Bool := i.toRequest.wellFormed

end Sys2Proof
end

