-- ==== Sys2Proof/Decode.lean ====
section
/-!
DEFINITION. The command word's decoder and encoder (R63, R65, R66; opcode_table.json).
-/

namespace Sys2Proof

/-- Why a command word stands for no command. -/
inductive DecodeError where
  /-- Command code 0b11 (R65). -/
  | reservedCommand
  deriving DecidableEq, Repr

/-- `req_op`, bits 1:0 of a command word (R63). -/
def opField (w : CommandWord) : BitVec 2 := w.extractLsb' 0 2

/-- `req_freq`, bits 65:2 of a command word (R63). -/
def freqField (w : CommandWord) : Freq := w.extractLsb' 2 64

/-- The command word of a code and an operand, the operand above the code (R63). -/
def commandWord (op : BitVec 2) (f : Freq) : CommandWord := f ++ op

/-- The command a code selects (R63), the reserved code rejected by name (R65). -/
def decodeOp (op : BitVec 2) : Except DecodeError Op :=
  if op = 0 then .ok .getRate
  else if op = 1 then .ok .setRate
  else if op = 2 then .ok .roundRate
  else .error .reservedCommand

/-- Decoding looks at bits 1:0 only; every word is one of the three commands or the reserved code (R63, R66). -/
def decode (w : CommandWord) : Except DecodeError Instr :=
  match decodeOp (opField w) with
  | .ok op => .ok (Instr.ofOp op (freqField w))
  | .error e => .error e

/-- The code of a command (R63). -/
def Op.code : Op → BitVec 2
  | .getRate => 0
  | .setRate => 1
  | .roundRate => 2

/-- The command word of a command (R63). -/
def encode (i : Instr) : CommandWord := commandWord i.op.code i.operand

/-- A word of the opcode table as a command word: bits above `nbits` are 0, and a number of more than 66 bits is
no command word (R66; notes/assumptions/20.md). -/
def tableWord (nbits w : Nat) : Option CommandWord :=
  if w % 2 ^ nbits < 2 ^ 66 then some (BitVec.ofNat 66 (w % 2 ^ nbits)) else none

/-- What the decoder reads from a table row's word. -/
def decodeTableWord (nbits w : Nat) : Option Instr :=
  match tableWord nbits w with
  | some cw =>
    match decode cw with
    | .ok i => some i
    | .error _ => none
  | none => none

end Sys2Proof
end

