-- ==== Sys2Proof/Machine/Operands.lean ====
section
/-!
DEFINITION. The forms operands and results take: the control word's fields and dividers, the FSM and status codes,
the response word.
-/

namespace Sys2Proof.Machine

/-- ODIV, bits 3:2 of a control word (R55). -/
def odivField (w : Word) : BitVec 2 := w.extractLsb' 2 2

/-- IDIV, bits 8:4 of a control word (R55). -/
def idivField (w : Word) : BitVec 5 := w.extractLsb' 4 5

/-- FBDIV, bits 15:9 of a control word (R55). -/
def fbdivField (w : Word) : BitVec 7 := w.extractLsb' 9 7

/-- BAND, bits 31:20 of a control word (R55, R56). -/
def bandField (w : Word) : BitVec 12 := w.extractLsb' 20 12

/-- Bits 19:16 of a control word, which no source assigns (R57). -/
def unassignedField (w : Word) : BitVec 4 := w.extractLsb' 16 4

/-- The input divider a control word selects, 1 to 32 (R58). -/
def inputDivider (w : Word) : Nat := (idivField w).toNat + 1

/-- The feedback divider a control word selects, 2 to 256 and even (R58). -/
def feedbackDivider (w : Word) : Nat := 2 * ((fbdivField w).toNat + 1)

/-- The output divider a control word selects: 1, 2, 4 or 8 (R58). -/
def outputDivider (w : Word) : Nat := 2 ^ (odivField w).toNat

/-- The FSM codes (R82). -/
def fsmCode : Fsm → BitVec 4
  | .idle => 0x0
  | .matching => 0x1
  | .pre => 0x2
  | .program => 0x3
  | .wait => 0x4
  | .check => 0x5
  | .post => 0x6
  | .getrd => 0x7
  | .resp => 0x8

/-- The status codes (R64). -/
def statusCode : RspStatus → BitVec 3
  | .ok => 0
  | .invalidConfiguration => 1
  | .lockTimeout => 2
  | .hardwareError => 3

/-- The status an error is reported with; the two CHECK errors stay distinct (R100, R102). -/
def errorStatus : CommandError → RspStatus
  | .invalidConfiguration => .invalidConfiguration
  | .lockTimeout => .lockTimeout
  | .hardwareError => .hardwareError

/-- The response word, `rsp_freq` above `rsp_status` (R64). -/
def responseWord (status : RspStatus) (freq : Freq) : ResponseWord := freq ++ statusCode status

/-- `req_ready` is 1 exactly in IDLE (R33). -/
def reqReady (s : State) : Bool := s.fsm = .idle

/-- `rsp_valid` is 1 exactly in RESP (R34). -/
def rspValid (s : State) : Bool := s.fsm = .resp

/-- What the response port shows: the response latch while `rsp_valid` is 1 (R34). -/
def responsePort (s : State) : Option ResponseWord :=
  if rspValid s then some (responseWord s.rspStatus s.rspFreq) else none

/-- The command the request latch holds (R21). -/
def latchedCommand (s : State) : Instr := Instr.ofOp s.reqOp s.reqFreq

/-- What the request port shows the block: a request, decoded, or nothing (R33). -/
def presentedRequest (s : State) : Option (Except DecodeError Instr) :=
  if s.reqValid then some (decode (commandWord s.reqOpIn s.reqFreqIn)) else none

end Sys2Proof.Machine
end

