-- ==== Sys2Proof/Machine/Ops.lean ====
section
/-!
DEFINITION. The named operations over the block's latches and the register bus, raising an error and the return from it,
and reset.
-/

namespace Sys2Proof.Machine

/-! ## The register map (R40, R41) -/

/-- The registers of the two blocks on the bus. -/
inductive Register where
  | ctrl
  | status
  | fmeas
  | mon
  | aux
  deriving DecidableEq, Repr

/-- The registers the block reads (R41, R49). -/
inductive ReadRegister where
  | ctrl
  | status
  deriving DecidableEq, Repr

/-- The address of CTRL (R41). -/
def ctrlAddr (c : Config) : Nat := c.mainBase + 0x000

/-- The address of STATUS (R41). -/
def statusAddr (c : Config) : Nat := c.mainBase + 0x004

/-- The address of AUX, where `AUX_BASE` is present (R41). -/
def auxAddr (c : Config) : Option Nat := c.auxBase.map (fun b => b + 0x000)

/-- The register map: fixed offsets from the two bases (R41). -/
def registerAddr (c : Config) : Register → Option Nat
  | .ctrl => some (ctrlAddr c)
  | .status => some (statusAddr c)
  | .fmeas => some (c.mainBase + 0x008)
  | .mon => some (c.mainBase + 0x00C)
  | .aux => auxAddr c

/-- What the stored register at an address holds: CTRL and AUX; STATUS is no stored value, FMEAS and MON are not
modelled (R26 to R29, R38; notes/assumptions/12.md), and nothing else is there (R42). -/
def registerAt (s : State) (a : Nat) : Option Word :=
  if a = ctrlAddr s.config then some s.ctrl
  else if auxAddr s.config = some a then some s.aux
  else none

/-! ## The free values -/

/-- The word the PLL answers to the next STATUS read: a draw (R93). -/
def statusAnswer (s : State) : Word :=
  match s.statusAnswers with
  | w :: _ => w
  | [] => Config.freeStatus s.draws

/-- The word the PLL answers to the next CTRL read (R12). -/
def ctrlAnswer (s : State) : Word :=
  match s.config.ctrlReadback with
  | .storage => s.ctrl
  | .oracle =>
    match s.ctrlAnswers with
    | w :: _ => w
    | [] => Config.freeCtrl s.draws

/-- A STATUS read takes its draw; the next read takes another (R93, U2). -/
def takeStatusAnswer (s : State) : State :=
  match s.statusAnswers with
  | _ :: ws => { s with statusAnswers := ws }
  | [] => { s with draws := s.draws + 1 }

/-- A CTRL read takes its draw under `Oracle`, and nothing under `Storage` (R12, U1). -/
def takeCtrlAnswer (s : State) : State :=
  match s.config.ctrlReadback with
  | .storage => s
  | .oracle =>
    match s.ctrlAnswers with
    | _ :: ws => { s with ctrlAnswers := ws }
    | [] => { s with draws := s.draws + 1 }

/-! ## The bus primitives (R39) -/

/-- Record an event (R32). -/
def record (e : Event) (s : State) : State := { s with history := s.history ++ [e] }

/-- `MemRead` of STATUS: the word and the state after; no side effect on the PLL but the draw taken (R48, R93). -/
def readStatus (s : State) : Word × State :=
  (statusAnswer s, record (.read (statusAddr s.config) (statusAnswer s)) (takeStatusAnswer s))

/-- `MemRead` of CTRL: the word and the state after (R12, R48). -/
def readCtrl (s : State) : Word × State :=
  (ctrlAnswer s, record (.read (ctrlAddr s.config) (ctrlAnswer s)) (takeCtrlAnswer s))

/-- `MemRead` of a register the block reads: total, it always answers a word (R39). -/
def memRead (r : ReadRegister) (s : State) : Word × State :=
  match r with
  | .ctrl => readCtrl s
  | .status => readStatus s

/-- `MemWrite` to CTRL: every bit is replaced (R47, R48, R90). -/
def writeCtrl (v : Word) (s : State) : State :=
  record (.write (ctrlAddr s.config) v) { s with ctrl := v }

/-- `MemWrite` to AUX at address `a`, remembered in `auxLast` (R31, R48). -/
def writeAux (a : Nat) (v : Word) (s : State) : State :=
  record (.write a v) { s with aux := v, auxLast := some v }

/-! ## Latches, responses and errors -/

/-- `fsm <- S` (00_scope.md notation). -/
def goto (f : Fsm) (s : State) : State := { s with fsm := f }

/-- Accepting a request in IDLE: the latch takes the command and its operand, and the FSM leaves IDLE (R21, R33, R86).
DESIGN CHOICE: the requester withdraws the request with its acceptance (R37 item 1; notes/assumptions/7.md). -/
def acceptRequest (op : Op) (f : Freq) (dest : Fsm) (s : State) : State :=
  { s with reqOp := op, reqFreq := f, reqValid := false, fsm := dest }

/-- `cfg <-` an entry (R22). -/
def latchConfiguration (d : DividerConfiguration) (s : State) : State := { s with cfg := d }

/-- `respond(status, freq)`: load the response latch and go to RESP (R23; 00_scope.md notation). -/
def respond (status : RspStatus) (freq : Freq) (s : State) : State :=
  { s with rspStatus := status, rspFreq := freq, fsm := .resp }

/-- Raising an error, the block's one exception entry: the response latch takes the error's code and 0, the FSM goes to
RESP, and nothing already done is undone (R97, R104). -/
def raise (e : CommandError) (s : State) : State := respond (errorStatus e) 0 s

/-- The return, from an error as from a success: the requester consumes the response and the FSM goes to IDLE, or the
response stays (R34, R96, R105). -/
def consumeResponse (s : State) : State := if s.rspReady then goto .idle s else s

/-- Clearing the wait timer on entry to WAIT (R24, R90). -/
def clearTimer (s : State) : State := { s with waitTimer := 0 }

/-- One tick of the wait timer in WAIT (R24, R91). -/
def tick (s : State) : State := { s with waitTimer := s.waitTimer + 1 }

/-! ## Reset -/

/-- The effect of the asserted reset input in any FSM state (R114): the instance's own state as R38 gives it; no bus
access; the PLL's registers, the configuration, the ports and the PLL's coming answers stay.
DESIGN CHOICE: the latches R38 leaves unspecified take the values of `State.bringUp` (notes/assumptions/4.md). -/
def underReset (s : State) : State :=
  { s with
    fsm := .idle
    reqOp := .getRate
    reqFreq := 0
    cfg := ⟨0, 0, 0, 0, 0⟩
    rspStatus := .ok
    rspFreq := 0
    waitTimer := 0
    auxLast := none
    history := [] }

/-! ## What the next step runs -/

/-- What the FSM runs next. -/
inductive NextWork where
  /-- IDLE with no request: the FSM stays (R83). -/
  | nothing
  /-- IDLE with a request for a command, or the command in progress. -/
  | command (i : Instr)
  /-- IDLE with a request whose code is reserved (R65). -/
  | reserved
  deriving DecidableEq, Repr

/-- In IDLE the request port decides; elsewhere the command in the request latch is in progress and a presented request
waits (R33, R83). -/
def nextWork (s : State) : NextWork :=
  if s.fsm = .idle then
    match presentedRequest s with
    | none => .nothing
    | some (.ok i) => .command i
    | some (.error .reservedCommand) => .reserved
  else .command (latchedCommand s)

/-- Present a command word on the request port of an idle block that is not held in reset, so that the next step takes
it. It stands for the requester's move; the block loads no program (R3, R53; notes/assumptions/15.md). -/
def presentWord (w : CommandWord) (s : State) : State :=
  { s with fsm := .idle, resetIn := false, reqValid := true, reqOpIn := opField w, reqFreqIn := freqField w }

end Sys2Proof.Machine
end

