-- ==== Sys2Proof/Machine/Matcher.lean ====
section
/-!
DEFINITION. The Rate Matcher: FIND_NEAREST, LOOKUP_BY_TARGET and the ROUND_RATE command (40_matcher.md).
-/

namespace Sys2Proof.Machine

/-- The entries of a table: those before the first sentinel; nothing after it is read (R62, R69). -/
def entries (t : RateTable) : List DividerConfiguration := t.takeWhile (fun d => d.target != 0)

/-- The effective length of a table (R69). -/
def effLen (t : RateTable) : Nat := (entries t).length

/-- The exact distance of two frequencies (R16, R71): no wrap. -/
def distance (f g : Freq) : Nat :=
  if g.toNat ≤ f.toNat then f.toNat - g.toNat else g.toNat - f.toNat

/-- The scan of FIND_NEAREST: a later entry replaces the best one only when strictly nearer (R71). -/
def nearestFrom (f : Freq) (best : DividerConfiguration) : List DividerConfiguration → DividerConfiguration
  | [] => best
  | d :: rest => if distance f d.target < distance f best.target then nearestFrom f d rest else nearestFrom f best rest

/-- FIND_NEAREST (R71): the target of the nearest entry, the earliest of equals; `none` is INVALID_CONFIGURATION, raised
for an empty table. The scan starts at the first entry, which replaces nothing. -/
def findNearest (t : RateTable) (f : Freq) : Option Freq :=
  match entries t with
  | [] => none
  | d :: rest => some (nearestFrom f d (d :: rest)).target

/-- LOOKUP_BY_TARGET (R73): the first entry with the target; `none` is INVALID_CONFIGURATION. -/
def lookupByTarget (t : RateTable) (target : Freq) : Option DividerConfiguration :=
  (entries t).find? (fun d => d.target == target)

/-- MATCH of ROUND_RATE: respond with the nearest target, or INVALID_CONFIGURATION on an empty table (R75, R83, R87).
No bus access. -/
def matchForRound (s : State) : State :=
  match findNearest s.config.table s.reqFreq with
  | none => raise .invalidConfiguration s
  | some t => respond .ok t s

/-- ROUND_RATE (R75), one FSM transition: acceptance in IDLE, then MATCH and RESP on the request latch. -/
def execRoundRate (freq : Freq) (s : State) : Result :=
  match s.fsm with
  | .idle => .next (acceptRequest .roundRate freq .matching s)
  | .matching => .next (matchForRound s)
  | .resp => .next (consumeResponse s)
  | .pre => .fault (.noTransition .pre)
  | .program => .fault (.noTransition .program)
  | .wait => .fault (.noTransition .wait)
  | .check => .fault (.noTransition .check)
  | .post => .fault (.noTransition .post)
  | .getrd => .fault (.noTransition .getrd)

end Sys2Proof.Machine
end

