-- ==== Sys2Proof/Machine/Construction.lean ====
section
/-!
DEFINITION. Construction: the Rate Table check (R70), the bus checks (R43, R44, R46) and the configuration check (R115).
-/

namespace Sys2Proof.Machine

/-- A written entry as a Divider Configuration, when every field is in its range (R61, R70 item a). -/
def entryOfRaw (e : RawEntry) : Option DividerConfiguration :=
  if e.target < 2 ^ 64 ∧ e.idiv < 2 ^ 5 ∧ e.fbdiv < 2 ^ 7 ∧ e.odiv < 2 ^ 2 ∧ e.band < 2 ^ 12 then
    some ⟨BitVec.ofNat 64 e.target, BitVec.ofNat 5 e.idiv, BitVec.ofNat 7 e.fbdiv, BitVec.ofNat 2 e.odiv,
      BitVec.ofNat 12 e.band⟩
  else none

/-- A written table as a Rate Table: its entries before the first sentinel, each in range (R69, R70 item a). -/
def tableOfRaw : List RawEntry → Option RateTable
  | [] => some []
  | e :: rest =>
    if e.target = 0 then some []
    else
      match entryOfRaw e, tableOfRaw rest with
      | some d, some t => some (d :: t)
      | _, _ => none

/-- The targets of a table's entries are pairwise distinct (R70 item b); order is not checked. -/
def distinctTargets (t : RateTable) : Bool := decide ((entries t).map (fun d => d.target)).Nodup

/-- Two regions share an address (R44). -/
def regionsOverlap (a b : Region) : Bool :=
  decide (a.base < b.base + b.size) && decide (b.base < a.base + a.size)

/-- The region of the main register block, 16 bytes (R40). -/
def mainRegion (base : Nat) : Region := ⟨base, 16⟩

/-- The region of the auxiliary register block, 4 bytes, where `AUX_BASE` is given to any variant (R40, R115). -/
def auxRegions (base : Option Nat) : List Region := (base.map (fun b => ⟨b, 4⟩)).toList

/-- The register regions of an instance (R40). -/
def instanceRegions (c : Config) : List Region := mainRegion c.mainBase :: auxRegions c.auxBase

/-- R115 item 1. -/
def auxPresent (c : Config) : Bool := !isCoreClock c || c.auxBase.isSome

/-- R115 item 3 (R46). -/
def basesAligned (c : Config) : Bool :=
  decide (c.mainBase % 4 = 0) && c.auxBase.all (fun b => decide (b % 4 = 0))

/-- R115 item 4 (R43). -/
def addressesFit (c : Config) : Bool :=
  decide (c.mainBase + 0x00F < 2 ^ c.addrWidth) && c.auxBase.all (fun b => decide (b + 0x003 < 2 ^ c.addrWidth))

/-- R115 item 8 (R44): no region of this instance overlaps another of its own or of another instance. -/
def regionsDisjoint (c : Config) : Bool :=
  (auxRegions c.auxBase).all (fun r => !regionsOverlap (mainRegion c.mainBase) r) &&
    (instanceRegions c).all (fun r => c.otherRegions.all (fun o => !regionsOverlap r o))

/-- The first check of R115 that a built configuration fails. Items 2 and 7 and the ranges of item 5 hold by the types.
DESIGN CHOICE: which failure is named when several hold; all are the one error kind (notes/assumptions/18.md); safe. -/
def constructionFailure (c : Config) : Option ConstructionError :=
  if !auxPresent c then some .auxBaseMissing
  else if !basesAligned c then some .misalignedBase
  else if !addressesFit c then some .addressTooWide
  else if !distinctTargets c.table then some .illFormedTable
  else if c.auxDiv1Code = c.auxDiv2Code then some .equalAuxCodes
  else if !regionsDisjoint c then some .overlappingRegions
  else none

/-- An instance of this configuration exists (R115). -/
def instanceExists (c : Config) : Bool := (constructionFailure c).isNone

/-- The system's table a variant selects: CoreClock and SystemPll share the generic one (R68). -/
def selectedTable (tables : RateTables) : Variant → List RawEntry
  | .coreClock => tables.generic
  | .systemPll => tables.generic
  | .hdmiPll => tables.hdmi

/-- The configuration built from inputs whose base, reference and table passed their own checks (R17, R36). -/
def builtConfig (others : List Region) (i : ConstructionInputs) (mb : Nat) (t : RateTable) : Config where
  variant := i.variant
  mainBase := mb
  auxBase := i.auxBase
  addrWidth := i.addrWidth
  refHz := BitVec.ofNat 56 i.refHz
  thresholdHz := i.thresholdHz
  lockWaitUs := i.lockWaitUs
  ticksPerUs := i.ticksPerUs
  auxDiv1Code := i.auxDiv1Code
  auxDiv2Code := i.auxDiv2Code
  ctrlReadback := i.ctrlReadback
  busByteOrder := i.busByteOrder
  table := t
  otherRegions := others

/-- A built configuration that passes the remaining checks of R115, or the ConstructionError. -/
def checkedConfig (c : Config) : Except ConstructionError Config :=
  match constructionFailure c with
  | some e => .error e
  | none => .ok c

/-- Construction of one instance of a system with these tables, beside the given regions of other instances: the
configuration, or the ConstructionError (R115). -/
def construct (tables : RateTables) (others : List Region) (i : ConstructionInputs) : Except ConstructionError Config :=
  match i.mainBase, tableOfRaw (selectedTable tables i.variant) with
  | none, _ => .error .mainBaseMissing
  | some _, none => .error .illFormedTable
  | some mb, some t =>
    if i.refHz < 2 ^ 56 then checkedConfig (builtConfig others i mb t) else .error .referenceTooFast

/-- Bring-up: construction, then reset; the PLL's own reset left CTRL and AUX at the given words (R116). -/
def bringUpInstance (tables : RateTables) (others : List Region) (i : ConstructionInputs) (ctrl aux : Word) :
    Except ConstructionError State :=
  match construct tables others i with
  | .ok c => .ok (State.bringUp c ctrl aux)
  | .error e => .error e

end Sys2Proof.Machine
end

