-- ==== Sys2Proof/Machine/Codec.lean ====
section
/-!
DEFINITION. The Register Codec: ENCODE, DECODE and the GET_RATE command (41_codec.md).
-/

namespace Sys2Proof.Machine

/-- ENCODE (R76): the codes shifted into their fields; PD, BYPASS and bits 19:16 are 0. The codes fit their fields by
their types, so a code that does not fit never reaches it (U9). -/
def encodeControl (d : DividerConfiguration) : Word :=
  d.idiv.setWidth 32 <<< 4 ||| d.fbdiv.setWidth 32 <<< 9 ||| d.odiv.setWidth 32 <<< 2 ||| d.band.setWidth 32 <<< 20

/-- DECODE on exact naturals (R16, R78): powerdown first, then bypass, then the floor of the divided product. -/
def decodeHz (w : Word) (ref : Nat) : Nat :=
  if powerdownBit w then 0
  else if bypassBit w then ref
  else ref * feedbackDivider w / (inputDivider w * outputDivider w)

/-- DECODE as the 64-bit result; a reference below 2^56 keeps it from wrapping (R78, R5). -/
def decodeControl (w : Word) (ref : BitVec 56) : Freq := BitVec.ofNat 64 (decodeHz w ref.toNat)

/-- GETRD: one read of CTRL, then respond with the decoded rate (R81, R95). -/
def getRead (s : State) : State :=
  let (w, s') := memRead .ctrl s
  respond .ok (decodeControl w s.config.refHz) s'

/-- GET_RATE (R81), one FSM transition: acceptance in IDLE, then GETRD and RESP. The operand bits are latched (R33) and
never used (R21). -/
def execGetRate (operand : Freq) (s : State) : Result :=
  match s.fsm with
  | .idle => .next (acceptRequest .getRate operand .getrd s)
  | .getrd => .next (getRead s)
  | .resp => .next (consumeResponse s)
  | .matching => .fault (.noTransition .matching)
  | .pre => .fault (.noTransition .pre)
  | .program => .fault (.noTransition .program)
  | .wait => .fault (.noTransition .wait)
  | .check => .fault (.noTransition .check)
  | .post => .fault (.noTransition .post)

end Sys2Proof.Machine
end

