-- ==== Sys2Proof/Machine/Sequencer.lean ====
section
/-!
DEFINITION. The Sequencer's steps and the SET_RATE command (42_sequencer.md).
-/

namespace Sys2Proof.Machine

/-- LOOKUP_BY_TARGET of FIND_NEAREST, the entry SET_RATE programs (R84, R87). -/
def chosenEntry (t : RateTable) (f : Freq) : Option DividerConfiguration :=
  (findNearest t f).bind (lookupByTarget t)

/-- MATCH of SET_RATE: INVALID_CONFIGURATION, or the entry latched and PRE or PROGRAM next (R83, R87). No bus access. -/
def matchForSet (s : State) : State :=
  match chosenEntry s.config.table s.reqFreq with
  | none => raise .invalidConfiguration s
  | some d => goto (if needsPre s then .pre else .program) (latchConfiguration d s)

/-- PRE: AUX to divide-by-2, before CTRL is touched (R89). -/
def preStep (s : State) : Result :=
  match auxAddr s.config with
  | some a => .next (goto .program (writeAux a s.config.auxDiv2Code s))
  | none => .refused .constructionFailed

/-- PROGRAM: one whole-word write of the encoded configuration, and the wait timer cleared (R90). -/
def programStep (s : State) : State :=
  goto .wait (clearTimer (writeCtrl (encodeControl s.cfg) s))

/-- WAIT: a tick while the settle time has not elapsed, then CHECK; no bus access (R91). -/
def waitStep (s : State) : State :=
  if waitElapsed s then goto .check (record .waitDone s) else tick s

/-- CHECK: one read of STATUS, the lock bit tested before the error bit; then POST or the response (R83, R92). -/
def checkStep (s : State) : State :=
  let (w, s') := memRead .status s
  match statusError w with
  | some e => raise e s'
  | none => if needsPost s then goto .post s' else respond .ok s.cfg.target s'

/-- POST: AUX to divide-by-1 after the confirmed lock, then the response (R94). -/
def postStep (s : State) : Result :=
  match auxAddr s.config with
  | some a => .next (respond .ok s.cfg.target (writeAux a s.config.auxDiv1Code s))
  | none => .refused .constructionFailed

/-- SET_RATE (R84), one FSM transition of R83: acceptance in IDLE, then the state the FSM names, on the latches. -/
def execSetRate (freq : Freq) (s : State) : Result :=
  match s.fsm with
  | .idle => .next (acceptRequest .setRate freq .matching s)
  | .matching => .next (matchForSet s)
  | .pre => preStep s
  | .program => .next (programStep s)
  | .wait => .next (waitStep s)
  | .check => .next (checkStep s)
  | .post => postStep s
  | .resp => .next (consumeResponse s)
  | .getrd => .fault (.noTransition .getrd)

end Sys2Proof.Machine
end

