-- ==== Sys2Proof/Machine/Dispatch.lean ====
section
/-! DEFINITION. One command's FSM transition: one arm per command. -/

namespace Sys2Proof.Machine

def exec (i : Instr) (s : State) : Host.Outcome State Fault Refusal :=
  match i with
  | .getRate operand => Sys2Proof.Machine.execGetRate operand s
  | .setRate freq => Sys2Proof.Machine.execSetRate freq s
  | .roundRate freq => Sys2Proof.Machine.execRoundRate freq s

end Sys2Proof.Machine
end

