-- ==== Sys2Proof/Machine/Step.lean ====
section
/-!
DEFINITION. One step of the block: one transition of the Sequencer (R83), or reset (R114).
-/

namespace Sys2Proof.Machine

/-- One step. A configuration that fails construction has no instance (R115). The asserted reset input wins over every
transition (R114; DEDUCED, notes/assumptions/8.md). Otherwise the FSM makes one transition of R83. -/
def step (s : State) : Host.Outcome State Fault Refusal :=
  if instanceExists s.config then
    if s.resetIn then .next (underReset s)
    else
      match nextWork s with
      | .nothing => .next s
      | .command i => exec i s
      | .reserved => .refused .reservedCommand
  else .refused .constructionFailed

/-- `s` with the command word of a table row presented on the request port (notes/assumptions/15.md). -/
def State.withFetchWord (s : State) (nbits w : Nat) : State :=
  presentWord (BitVec.ofNat 66 (w % 2 ^ nbits)) s

end Sys2Proof.Machine
end

