-- ==== Sys2Proof/Machine/System.lean ====
section
/-!
DEFINITION. Several instances (R111): each constructed on its own from the system's two Rate Tables, stepped one at a
time, sharing nothing but those constants.
-/

namespace Sys2Proof.Machine

/-- The register regions some inputs claim on the bus (R40): those of the instance they give by the checks of their own.
Inputs that fail such a check give no instance and claim none (R115; DEDUCED, notes/assumptions/19.md). -/
def claimedRegions (tables : RateTables) (i : ConstructionInputs) : List Region :=
  match construct tables [] i with
  | .ok c => instanceRegions c
  | .error _ => []

/-- Two lists of regions share no address (R44). -/
def regionsApart (rs qs : List Region) : Bool := rs.all (fun r => qs.all (fun q => !regionsOverlap r q))

/-- No two of the instances these inputs give share a register address (R44). -/
def claimsApart (tables : RateTables) (is : List ConstructionInputs) : Bool :=
  decide ((is.map (claimedRegions tables)).Pairwise (fun rs qs => regionsApart rs qs = true))

/-- The constructions of `todo`, each on its own beside the regions all the others claim, `seen` being those claimed
before (R111, R115). -/
def constructFrom (tables : RateTables) (seen : List Region) :
    List ConstructionInputs → List (Except ConstructionError Config)
  | [] => []
  | i :: rest =>
    construct tables (seen ++ rest.flatMap (claimedRegions tables)) i ::
      constructFrom tables (seen ++ claimedRegions tables i) rest

/-- The instances of one system with these two Rate Tables. A set whose regions overlap is refused whole (R44);
otherwise each is constructed on its own, and one that fails a check hinders no other (R111). -/
def constructAll (tables : RateTables) (is : List ConstructionInputs) :
    Except ConstructionError (List (Except ConstructionError Config)) :=
  if claimsApart tables is then .ok (constructFrom tables [] is) else .error .overlappingRegions

/-- One step of instance `k`; the others do not move (R51, R111). `none` where there is no such instance. -/
def stepInstance (k : Nat) (insts : List State) : Option (Host.Outcome (List State) Fault Refusal) :=
  match insts[k]? with
  | none => none
  | some s =>
    match step s with
    | .next t => some (.next (insts.set k t))
    | .fault r => some (.fault r)
    | .refused r => some (.refused r)

end Sys2Proof.Machine
end

