-- ==== Sys2Proof/Machine/Text.lean ====
section
/-!
DEFINITION. The textual syntax of commands (R67): one command a line, its frequency in decimal or hexadecimal, a comment
after a semicolon, and the comment that gives a STATUS word.
DESIGN CHOICE: words are separated by one or more spaces, and the case of letters matters but in hexadecimal digits
(notes/assumptions/16.md); safe.
-/

namespace Sys2Proof.Machine

/-- A parsed line: the command and the STATUS word its comment gives. -/
structure TextLine where
  command : Instr
  status : Option Word
  deriving DecidableEq, Repr

/-- The value of a hexadecimal digit. -/
def hexDigit (c : Char) : Option Nat :=
  let n := c.toNat
  if 48 ≤ n ∧ n ≤ 57 then some (n - 48)
  else if 97 ≤ n ∧ n ≤ 102 then some (n - 87)
  else if 65 ≤ n ∧ n ≤ 70 then some (n - 55)
  else none

/-- The value of a decimal digit. -/
def decDigit (c : Char) : Option Nat := if 48 ≤ c.toNat ∧ c.toNat ≤ 57 then some (c.toNat - 48) else none

/-- Hexadecimal digits, most significant first. -/
def hexFrom (acc : Nat) : List Char → Option Nat
  | [] => some acc
  | c :: cs =>
    match hexDigit c with
    | some d => hexFrom (acc * 16 + d) cs
    | none => none

/-- Decimal digits, most significant first, underscores allowed as separators (R67). -/
def decFrom (acc : Nat) : List Char → Option Nat
  | [] => some acc
  | c :: cs =>
    if c = '_' then decFrom acc cs
    else
      match decDigit c with
      | some d => decFrom (acc * 10 + d) cs
      | none => none

/-- A number: `0x` and hexadecimal digits, or a decimal digit and more (R67). -/
def parseNumber : List Char → Option Nat
  | '0' :: 'x' :: d :: ds => hexFrom 0 (d :: ds)
  | d :: ds => if d = '_' then none else decFrom 0 (d :: ds)
  | [] => none

/-- A number below 2^n as a word of n bits. -/
def parseBits (n : Nat) (cs : List Char) : Option (BitVec n) :=
  match parseNumber cs with
  | some v => if v < 2 ^ n then some (BitVec.ofNat n v) else none
  | none => none

/-- The words of a line, `cur` being the one read so far, reversed. -/
def wordsFrom (cur : List Char) : List Char → List (List Char)
  | [] => if cur.isEmpty then [] else [cur.reverse]
  | c :: cs =>
    if c = ' ' then if cur.isEmpty then wordsFrom [] cs else cur.reverse :: wordsFrom [] cs
    else wordsFrom (c :: cur) cs

/-- The command names and their aliases, the source's function names (R67). -/
def commandName (cs : List Char) : Option Op :=
  if cs = ['G', 'E', 'T', '_', 'R', 'A', 'T', 'E'] ∨ cs = ['g', 'e', 't', '_', 'r', 'a', 't', 'e'] then some .getRate
  else if cs = ['S', 'E', 'T', '_', 'R', 'A', 'T', 'E'] ∨ cs = ['s', 'e', 't', '_', 'r', 'a', 't', 'e'] then some .setRate
  else if cs = ['R', 'O', 'U', 'N', 'D', '_', 'R', 'A', 'T', 'E'] ∨
      cs = ['r', 'o', 'u', 'n', 'd', '_', 'r', 'a', 't', 'e'] then some .roundRate
  else none

/-- The command of a line's words: GET_RATE alone, the other two with a frequency (R67). -/
def parseCommand : List (List Char) → Option Instr
  | [name] => if commandName name = some .getRate then some (.getRate 0) else none
  | [name, freq] =>
    match commandName name, parseBits 64 freq with
    | some .setRate, some f => some (.setRate f)
    | some .roundRate, some f => some (.roundRate f)
    | _, _ => none
  | _ => none

/-- The STATUS word a comment of the form `status=<word>` gives (R67); any other comment gives none. -/
def parseStatus (comment : List Char) : Option Word :=
  match wordsFrom [] comment with
  | ('s' :: 't' :: 'a' :: 't' :: 'u' :: 's' :: '=' :: digits) :: _ => parseBits 32 digits
  | _ => none

/-- One line of text as a command (R67). -/
def parseLine (line : List Char) : Option TextLine :=
  match parseCommand (wordsFrom [] (line.takeWhile (fun c => c != ';'))) with
  | some i => some ⟨i, parseStatus ((line.dropWhile (fun c => c != ';')).drop 1)⟩
  | none => none

end Sys2Proof.Machine
end

