-- ==== Sys2Proof/Machine/Requester.lean ====
section
/-!
DEFINITION. The outside world: what the requester, the reset line and the PLL can do between two steps
(R15, R33, R34, R37, R114, R93).
-/

namespace Sys2Proof.Machine

/-- A move of the outside world. -/
inductive HostMove where
  /-- The requester presents a request (R33). -/
  | present (op : BitVec 2) (freq : Freq)
  /-- The requester raises or lowers `rsp_ready` (R34). -/
  | ready (level : Bool)
  /-- The reset input is asserted or released (R114). -/
  | reset (level : Bool)
  /-- The PLL settles what a coming STATUS read returns (R93). -/
  | statusWillBe (w : Word)
  /-- The PLL settles what a coming CTRL read returns under `Oracle` (R12). -/
  | ctrlWillBe (w : Word)
  deriving DecidableEq, Repr

/-- The requester may present a request: none is pending or unanswered (R37 items 1 and 2).
DESIGN CHOICE: R37 does not say when a request ceases to bar the next one; here it does once the FSM is back in IDLE. So
no request is presented in RESP, where R33 would let it wait; unsafe. And a request cut short by reset, which gets no
response (R114), bars none after the reset; safe (both notes/assumptions/22.md). -/
def mayPresent (s : State) : Bool := reqReady s && !s.reqValid

/-- The effect of a move; `none` is no move, for a requester that breaks its duties (R37, R106, U10).
No agent writes CTRL or AUX behind the block's back (R124). -/
def hostMove (m : HostMove) (s : State) : Option State :=
  match m with
  | .present op f =>
    if mayPresent s then some { s with reqValid := true, reqOpIn := op, reqFreqIn := f } else none
  | .ready b => some { s with rspReady := b }
  | .reset b => some { s with resetIn := b }
  | .statusWillBe w => some { s with statusAnswers := s.statusAnswers ++ [w] }
  | .ctrlWillBe w => some { s with ctrlAnswers := s.ctrlAnswers ++ [w] }

end Sys2Proof.Machine
end

