-- ==== Sys2Proof/Safety.lean ====
section
/-!
DEFINITION. What the claims speak of: the path of each command, the invariant, reachable states, the end of a run, and
what a whole command does (R49, R84, R98) as one function.
-/

namespace Sys2Proof.Machine

/-- `k` steps, stopping at the first fault or refusal: the host's `Core.run` of this machine (`run_eq_core_run`). -/
def run : Nat → State → Result
  | 0, s => .next s
  | k + 1, s =>
    match step s with
    | .next t => run k t
    | .fault r => .fault r
    | .refused r => .refused r

/-- The FSM states on a command's path (R82 to R84); IDLE and RESP are on every path. -/
def onPath : Op → Fsm → Bool
  | _, .idle => true
  | _, .resp => true
  | .getRate, .getrd => true
  | .roundRate, .matching => true
  | .setRate, .matching => true
  | .setRate, .pre => true
  | .setRate, .program => true
  | .setRate, .wait => true
  | .setRate, .check => true
  | .setRate, .post => true
  | _, _ => false

/-- The FSM states in which the configuration latch holds the entry SET_RATE chose (R22). -/
def holdsEntry : Fsm → Bool
  | .pre => true
  | .program => true
  | .wait => true
  | .check => true
  | .post => true
  | _ => false

/-- What the block may do on the bus (R26, R29, R49, R60): CTRL takes the encoding of a table entry, AUX one of the two
codes and for CoreClock only, and only CTRL and STATUS are read. -/
def eventAllowed (c : Config) : Event → Prop
  | .write a v =>
    (a = ctrlAddr c ∧ ∃ d ∈ entries c.table, v = encodeControl d) ∨
      (c.variant = .coreClock ∧ auxAddr c = some a ∧ (v = c.auxDiv1Code ∨ v = c.auxDiv2Code))
  | .read a _ => a = ctrlAddr c ∨ a = statusAddr c
  | .waitDone => True

/-- What holds in every state a run reaches. -/
structure State.Inv (s : State) : Prop where
  /-- The configuration passed construction (R115). -/
  built : instanceExists s.config = true
  /-- The FSM state is on the path of the latched command (R83). -/
  path : onPath s.reqOp s.fsm = true
  /-- The configuration latch holds the entry the matcher chose for the latched request (R22, R87). -/
  entry : holdsEntry s.fsm = true → chosenEntry s.config.table s.reqFreq = some s.cfg
  /-- PRE is entered only above the threshold and for CoreClock (R88). -/
  preSide : s.fsm = .pre → needsPre s = true
  /-- POST is entered only at or below the threshold and for CoreClock (R88). -/
  postSide : s.fsm = .post → needsPost s = true
  /-- WAIT's timer has not passed its end (R91). -/
  timer : s.fsm = .wait → s.waitTimer ≤ waitTicks s.config
  /-- AUX holds what the block last wrote to it: one of the two codes, for CoreClock only (R29, R31, R60). -/
  auxRecord : ∀ v, s.auxLast = some v →
    s.config.variant = .coreClock ∧ s.aux = v ∧ (v = s.config.auxDiv1Code ∨ v = s.config.auxDiv2Code)
  /-- An error's response carries frequency 0 (R64). -/
  errorFreq : s.rspStatus ≠ .ok → s.rspFreq = 0
  /-- The history holds only what the block may do (R49). -/
  events : ∀ e ∈ s.history, eventAllowed s.config e

/-- The states of runs: bring-up of a configuration that passed construction, moves of the outside world, and steps. -/
inductive Reachable : State → Prop where
  | bringUp (c : Config) (ctrl aux : Word) (h : instanceExists c = true) : Reachable (State.bringUp c ctrl aux)
  | move (s t : State) (m : HostMove) (hs : Reachable s) (h : hostMove m s = some t) : Reachable t
  | step (s t : State) (hs : Reachable s) (h : step s = .next t) : Reachable t

/-- A command is in progress: accepted and not yet answered (R117). -/
def inProgress (s : State) : Bool := decide (s.fsm ≠ .idle) && decide (s.fsm ≠ .resp)

/-- A run may have ended here: IDLE and no request presented (R117). -/
def mayBeEnd (s : State) : Bool := decide (s.fsm = .idle) && !s.reqValid

/-- A request with operand `f` for command code `op` is about to be accepted by an instance that exists. -/
structure Presented (s : State) (op : BitVec 2) (f : Freq) : Prop where
  built : instanceExists s.config = true
  noReset : s.resetIn = false
  idle : s.fsm = .idle
  valid : s.reqValid = true
  op : s.reqOpIn = op
  freq : s.reqFreqIn = f

/-- The AUX write with a code, as an event; none where there is no AUX (R41). -/
def auxWrite (c : Config) (code : Word) : List Event := (auxAddr c).toList.map (fun a => .write a code)

/-- SET_RATE of `f` writes divide-by-2 first (R98 item a). -/
def setRatePre (c : Config) (f : Freq) : Bool := isCoreClock c && aboveThreshold c f

/-- SET_RATE of `f` writes divide-by-1 last when the STATUS word `w` passes the check (R98 item b). -/
def setRatePost (c : Config) (f : Freq) (w : Word) : Bool :=
  isCoreClock c && !aboveThreshold c f && (statusError w).isNone

/-- The events of a SET_RATE of `f` that programs entry `d` and reads STATUS word `w`, in order (R49, R98). -/
def setRateEvents (c : Config) (f : Freq) (d : DividerConfiguration) (w : Word) : List Event :=
  (if setRatePre c f then auxWrite c c.auxDiv2Code else []) ++
    [.write (ctrlAddr c) (encodeControl d), .waitDone, .read (statusAddr c) w] ++
    (if setRatePost c f w then auxWrite c c.auxDiv1Code else [])

/-- The AUX code such a SET_RATE writes, if any (R88). -/
def setRateAux (c : Config) (f : Freq) (w : Word) : Option Word :=
  if setRatePre c f then some c.auxDiv2Code else if setRatePost c f w then some c.auxDiv1Code else none

/-- The response of a SET_RATE that programmed entry `d` and read STATUS word `w` (R84, R92). -/
def setRateResponse (d : DividerConfiguration) (w : Word) : RspStatus × Freq :=
  match statusError w with
  | none => (.ok, d.target)
  | some e => (errorStatus e, 0)

/-- The steps from acceptance to RESP of such a SET_RATE: one per state it passes, and WAIT's ticks (R83, R91). -/
def setRateSteps (c : Config) (f : Freq) (w : Word) : Nat :=
  5 + waitTicks c + (if setRatePre c f then 1 else 0) + (if setRatePost c f w then 1 else 0)

/-- The duty of `TABLE_GENERIC`'s author: no request at or below the threshold is matched above it (R121 case b). -/
def tableKeepsSides (c : Config) : Prop :=
  ∀ f t, aboveThreshold c f = false → findNearest c.table f = some t → aboveThreshold c t = false

end Sys2Proof.Machine
end

