-- ==== Sys2Proof/Certificates/Slice0/Obligations.lean ====
section
/-!
DEFINITION. The statements for the provers. Each docstring names the rules it states.
-/

open Sys2Proof Sys2Proof.Machine

/-! ## Command words -/

/-- R63, R66: decoding a command's word gives the command back, and a word that decodes is its command's word. -/
def Obligations.DecodeAndEncodeAgree : Prop :=
  (∀ i : Instr, i.wellFormed = true → decode (encode i) = .ok i) ∧
  (∀ (w : CommandWord) (i : Instr), decode w = .ok i → i.wellFormed = true ∧ encode i = w)

/-- R63, R65: the word is `req_freq × 4 + req_op`; the codes 0, 1 and 2 are the commands, 3 is reserved. -/
def Obligations.CommandCodesSelectTheCommands : Prop :=
  ∀ f : Freq,
    decode (BitVec.ofNat 66 (4 * f.toNat)) = .ok (.getRate f) ∧
    decode (BitVec.ofNat 66 (4 * f.toNat + 1)) = .ok (.setRate f) ∧
    decode (BitVec.ofNat 66 (4 * f.toNat + 2)) = .ok (.roundRate f) ∧
    decode (BitVec.ofNat 66 (4 * f.toNat + 3)) = .error .reservedCommand ∧
    (encode (.getRate f)).toNat = 4 * f.toNat ∧
    (encode (.setRate f)).toNat = 4 * f.toNat + 1 ∧
    (encode (.roundRate f)).toNat = 4 * f.toNat + 2

/-- R63, R67: command words and lines of text written out in 95_test_vectors.md stand for the commands they name.
That a word is read from the lowest 66 of a table row's bits is the model's choice (notes/assumptions/20.md). -/
def Obligations.WrittenOutCommandsAreRead : Prop :=
  parseLine "SET_RATE 250000000 ; status=0x00000001".toList = some ⟨.setRate 250000000, some 1⟩ ∧
  parseLine "round_rate 250_000_000".toList = some ⟨.roundRate 250000000, none⟩ ∧
  parseLine "GET_RATE".toList = some ⟨.getRate 0, none⟩ ∧
  decodeTableWord 72 0x14 = some (.getRate 5) ∧
  decodeTableWord 72 0x3B9ACA01 = some (.setRate 250000000) ∧
  decodeTableWord 72 0x3B9ACA02 = some (.roundRate 250000000) ∧
  decodeTableWord 72 0x3FFFFFFFFFFFFFFFD = some (.setRate 18446744073709551615) ∧
  decodeTableWord 72 0x3B9ACA03 = none

/-! ## What a step runs -/

/-- R33, R86: in IDLE a presented request that decodes is run by the step. -/
def Obligations.StepRunsThePresentedCommand : Prop :=
  ∀ (s : State) (i : Instr), instanceExists s.config = true → s.resetIn = false → s.fsm = .idle →
    s.reqValid = true → decode (commandWord s.reqOpIn s.reqFreqIn) = .ok i → step s = exec i s

/-- R83: outside IDLE the step runs the command in the request latch, whatever the request port shows. -/
def Obligations.StepRunsTheCommandInProgress : Prop :=
  ∀ (s : State) (i : Instr), instanceExists s.config = true → s.resetIn = false → s.fsm ≠ .idle →
    i.op = s.reqOp → i.operand = s.reqFreq → step s = exec i s

/-- R65, R83, R86, R106, R115: IDLE with no request stays as it is; a request with the reserved code is refused by name;
so is every step of a configuration that fails construction, each step of which is checked by the model's choice
(notes/assumptions/11.md). -/
def Obligations.IdleStaysAndRefusalsAreByName : Prop :=
  ∀ s : State,
    (instanceExists s.config = true → s.resetIn = false → s.fsm = .idle → s.reqValid = false → step s = .next s) ∧
    (instanceExists s.config = true → s.resetIn = false → s.fsm = .idle → s.reqValid = true → s.reqOpIn = 3 →
      step s = .refused .reservedCommand) ∧
    (instanceExists s.config = false → step s = .refused .constructionFailed)

/-- R114, R38: the asserted reset input, in any FSM state, gives IDLE, an empty history and no remembered AUX write,
makes no bus access, leaves the PLL's registers, and changes nothing but the block's own state. That it wins over the
transition of the same step is the model's inference (notes/assumptions/8.md). -/
def Obligations.ResetReturnsToIdleFromAnyState : Prop :=
  ∀ s : State, instanceExists s.config = true → s.resetIn = true →
    ∃ t, step s = .next t ∧ t.fsm = .idle ∧ t.history = [] ∧ t.auxLast = none ∧
      t = { s with
        fsm := t.fsm, history := t.history, auxLast := t.auxLast, reqOp := t.reqOp, reqFreq := t.reqFreq, cfg := t.cfg,
        rspStatus := t.rspStatus, rspFreq := t.rspFreq, waitTimer := t.waitTimer }

/-- R38, R33, R34: bring-up leaves IDLE, an empty history and no remembered AUX write; a request is accepted and no
response shown; and the reset state is a bring-up of a configuration that passed construction, which configuration
being the model's choice (notes/assumptions/2.md). -/
def Obligations.ResetLeavesTheStatesTheSpecGives : Prop :=
  (∀ (c : Config) (ctrl aux : Word),
    (State.bringUp c ctrl aux).fsm = .idle ∧ (State.bringUp c ctrl aux).history = [] ∧
    (State.bringUp c ctrl aux).auxLast = none ∧ (State.bringUp c ctrl aux).config = c ∧
    reqReady (State.bringUp c ctrl aux) = true ∧ responsePort (State.bringUp c ctrl aux) = none) ∧
  (∃ (c : Config) (ctrl aux : Word), State.reset = State.bringUp c ctrl aux ∧ instanceExists c = true)

/-! ## IDLE and RESP -/

/-- R21, R33, R83, R86: accepting a command latches its code and operand and leaves IDLE for GETRD or MATCH.
That the request is withdrawn with its acceptance is the model's choice (notes/assumptions/7.md). -/
def Obligations.AcceptanceLatchesTheRequest : Prop :=
  ∀ (i : Instr) (s : State), s.fsm = .idle →
    exec i s = .next { s with
      reqOp := i.op, reqFreq := i.operand, reqValid := false,
      fsm := if i.op = .getRate then .getrd else .matching }

/-- R33, R34, R64, R82: the ports show a ready request port exactly in IDLE and the response latch exactly in RESP, with
the status code in bits 2:0 and the frequency above it; the status and FSM codes are the spec's. -/
def Obligations.PortsShowTheHandshake : Prop :=
  (∀ s : State, (reqReady s = true ↔ s.fsm = .idle) ∧
    (s.fsm = .resp → ∃ w, responsePort s = some w ∧
      w.toNat = 8 * s.rspFreq.toNat + (statusCode s.rspStatus).toNat) ∧
    (s.fsm ≠ .resp → responsePort s = none)) ∧
  [RspStatus.ok, .invalidConfiguration, .lockTimeout, .hardwareError].map statusCode = [0, 1, 2, 3] ∧
  [Fsm.idle, .matching, .pre, .program, .wait, .check, .post, .getrd, .resp].map fsmCode
    = [0, 1, 2, 3, 4, 5, 6, 7, 8]

/-- R34, R96, R105: in RESP every command goes to IDLE when the response is consumed, from an error as from a success,
and stays otherwise; nothing else changes. -/
def Obligations.ConsumedResponseReturnsToIdle : Prop :=
  ∀ (i : Instr) (s : State), s.fsm = .resp →
    (s.rspReady = true → exec i s = .next { s with fsm := .idle }) ∧
    (s.rspReady = false → exec i s = .next s)

/-! ## The Register Codec -/

/-- R58: the dividers a control word selects, as numbers of its bits, and the range of their product. -/
def Obligations.DividersAreAssembledFromTheFields : Prop :=
  ∀ w : Word,
    inputDivider w = w.toNat / 16 % 32 + 1 ∧ feedbackDivider w = 2 * (w.toNat / 512 % 128 + 1) ∧
    outputDivider w = 2 ^ (w.toNat / 4 % 4) ∧
    1 ≤ inputDivider w * outputDivider w ∧ inputDivider w * outputDivider w ≤ 256

/-- R76: ENCODE is the concatenation of the codes and the constant-zero ranges, and its value is the sum of the shifted
codes; the target is not encoded; a code outside its field makes no configuration to encode. -/
def Obligations.EncodePacksTheCodes : Prop :=
  (∀ d : DividerConfiguration,
    encodeControl d = d.band ++ 0#4 ++ d.fbdiv ++ d.idiv ++ d.odiv ++ 0#2 ∧
    (encodeControl d).toNat = d.idiv.toNat * 2 ^ 4 + d.fbdiv.toNat * 2 ^ 9 + d.odiv.toNat * 2 ^ 2 + d.band.toNat * 2 ^ 20 ∧
    (∀ t, encodeControl { d with target := t } = encodeControl d)) ∧
  (∀ e : RawEntry, 2 ^ 5 ≤ e.idiv ∨ 2 ^ 7 ≤ e.fbdiv ∨ 2 ^ 2 ≤ e.odiv ∨ 2 ^ 12 ≤ e.band → entryOfRaw e = none)

/-- R77: ENCODE's fields read back, its zero ranges are zero, and it is injective on the codes. -/
def Obligations.EncodeIsInjectiveOnTheCodes : Prop :=
  (∀ d : DividerConfiguration,
    idivField (encodeControl d) = d.idiv ∧ fbdivField (encodeControl d) = d.fbdiv ∧
    odivField (encodeControl d) = d.odiv ∧ bandField (encodeControl d) = d.band ∧
    unassignedField (encodeControl d) = 0 ∧ (encodeControl d).extractLsb' 0 2 = 0) ∧
  (∀ d e : DividerConfiguration, encodeControl d = encodeControl e ↔
    d.idiv = e.idiv ∧ d.fbdiv = e.fbdiv ∧ d.odiv = e.odiv ∧ d.band = e.band)

/-- R78: DECODE, exact: powerdown, then bypass, then the floor; no result wraps, and none exceeds 256 × ref. -/
def Obligations.DecodeIsExactAndTotal : Prop :=
  ∀ (w : Word) (ref : BitVec 56),
    (decodeControl w ref).toNat =
      (if w.toNat % 2 = 1 then 0
       else if w.toNat / 2 % 2 = 1 then ref.toNat
       else ref.toNat * (2 * (w.toNat / 512 % 128 + 1)) / ((w.toNat / 16 % 32 + 1) * 2 ^ (w.toNat / 4 % 4))) ∧
    (decodeControl w ref).toNat ≤ 256 * ref.toNat

/-- R79: powerdown decodes to 0, bypass to the reference, whatever the other bits; only bits 15:0 count. -/
def Obligations.PowerdownAndBypassDecode : Prop :=
  ∀ (w : Word) (ref : BitVec 56),
    (w.getLsbD 0 = true → decodeControl w ref = 0) ∧
    (w.getLsbD 0 = false → w.getLsbD 1 = true → (decodeControl w ref).toNat = ref.toNat) ∧
    (∀ v : Word, v.extractLsb' 0 16 = w.extractLsb' 0 16 → decodeControl v ref = decodeControl w ref)

/-- R80: decoding an encoded configuration, by its codes alone; for the source's entry it is 233,333,331 and not the
target. -/
def Obligations.DecodeOfEncodeIsTheFormula : Prop :=
  (∀ (d : DividerConfiguration) (ref : BitVec 56),
    (decodeControl (encodeControl d) ref).toNat =
      ref.toNat * 2 * (d.fbdiv.toNat + 1) / ((d.idiv.toNat + 1) * 2 ^ d.odiv.toNat)) ∧
  (∀ (d : DividerConfiguration) (ref : BitVec 56) (b : BitVec 12) (t : Freq),
    decodeControl (encodeControl { d with band := b, target := t }) ref = decodeControl (encodeControl d) ref) ∧
  decodeControl (encodeControl ⟨233000000, 1, 27, 2, 0⟩) 33333333 = 233333331

/-! ## GET_RATE -/

/-- R81, R95: GETRD reads CTRL once and responds OK with the word's decoded rate; the table, `cfg`, AUX and STATUS are
not touched, and nothing else of the machine changes. -/
def Obligations.GetRateRespondsWithTheDecodedRate : Prop :=
  ∀ (x : Freq) (s : State), s.fsm = .getrd →
    ∃ t, exec (.getRate x) s = .next t ∧
      t = { s with
        fsm := .resp, rspStatus := .ok, rspFreq := decodeControl (ctrlAnswer s) s.config.refHz,
        history := s.history ++ [.read (s.config.mainBase + 0x000) (ctrlAnswer s)],
        ctrlAnswers := t.ctrlAnswers, draws := t.draws }

/-- R12: under Storage a CTRL read returns the stored word and takes no draw; under Oracle the PLL's next answer comes,
and any word can come. The queue of answers is the model's choice (notes/assumptions/6.md). -/
def Obligations.CtrlReadbackIsStorageOrOracle : Prop :=
  (∀ s : State, s.config.ctrlReadback = .storage → ctrlAnswer s = s.ctrl ∧ takeCtrlAnswer s = s) ∧
  (∀ (s : State) (w : Word), s.config.ctrlReadback = .oracle → s.ctrlAnswers = [] →
    ∃ t, hostMove (.ctrlWillBe w) s = some t ∧ ctrlAnswer t = w ∧ (takeCtrlAnswer t).ctrlAnswers = []) ∧
  (∀ (s : State) (v : Word), ctrlAnswer (writeCtrl v s) = if s.config.ctrlReadback = .storage then v else ctrlAnswer s) ∧
  (∀ (x : Freq) (s t : State), s.fsm = .getrd → exec (.getRate x) s = .next t →
    t.ctrlAnswers = (takeCtrlAnswer s).ctrlAnswers ∧ t.draws = (takeCtrlAnswer s).draws)

/-- R81, R101: from a presented request, two steps bring GET_RATE to its response, which is always OK. -/
def Obligations.GetRateRunsToItsResponse : Prop :=
  ∀ (s : State) (x : Freq), Presented s 0 x →
    ∃ t, run 2 s = .next t ∧ t.fsm = .resp ∧ t.rspStatus = .ok ∧
      t.rspFreq = decodeControl (ctrlAnswer s) s.config.refHz ∧
      t.history = s.history ++ [.read s.config.mainBase (ctrlAnswer s)] ∧
      t.ctrl = s.ctrl ∧ t.aux = s.aux ∧ t.auxLast = s.auxLast ∧ t.cfg = s.cfg ∧ t.config = s.config

/-- R26, R49, R81, R75: the frame of GET_RATE and ROUND_RATE in every FSM state: no PLL register, no record of AUX, no
configuration latch, no timer, no configuration, no input but the withdrawn request, whose withdrawal is the model's
choice (notes/assumptions/7.md); ROUND_RATE makes no bus access. -/
def Obligations.QueriesLeaveThePllAlone : Prop :=
  ∀ (i : Instr) (s t : State), i.op ≠ .setRate → exec i s = .next t →
    t.ctrl = s.ctrl ∧ t.aux = s.aux ∧ t.auxLast = s.auxLast ∧ t.cfg = s.cfg ∧ t.waitTimer = s.waitTimer ∧
    t.config = s.config ∧ t.statusAnswers = s.statusAnswers ∧
    t.resetIn = s.resetIn ∧ t.reqOpIn = s.reqOpIn ∧ t.reqFreqIn = s.reqFreqIn ∧ t.rspReady = s.rspReady ∧
    (∀ a, registerAt t a = registerAt s a) ∧
    (s.fsm ≠ .idle → t.reqOp = s.reqOp ∧ t.reqFreq = s.reqFreq ∧ t.reqValid = s.reqValid) ∧
    (i.op = .roundRate → t.history = s.history ∧ t.ctrlAnswers = s.ctrlAnswers ∧ t.draws = s.draws)

/-! ## The Rate Matcher -/

/-- R72: for a non-empty table FIND_NEAREST returns the target of an entry that no entry beats and no earlier entry
equals in distance. -/
def Obligations.NearestEntryIsChosen : Prop :=
  ∀ (t : RateTable) (f : Freq), entries t ≠ [] →
    ∃ (b : Nat) (e : DividerConfiguration), (entries t)[b]? = some e ∧ findNearest t f = some e.target ∧
      (∀ (j : Nat) (d : DividerConfiguration), (entries t)[j]? = some d →
        distance f e.target ≤ distance f d.target) ∧
      (∀ (j : Nat) (d : DividerConfiguration), (entries t)[j]? = some d → j < b →
        distance f e.target < distance f d.target)

/-- R71, R16: the distance is the exact absolute difference; FIND_NEAREST fails exactly on an empty table; a request equal
to a target returns it; 0 gives the smallest target and 2^64-1 the largest; one entry answers every request. -/
def Obligations.NearestCornerCases : Prop :=
  (∀ f g : Freq, (distance f g : Int) = |(f.toNat : Int) - (g.toNat : Int)|) ∧
  (∀ (t : RateTable) (f : Freq), findNearest t f = none ↔ effLen t = 0) ∧
  (∀ (t : RateTable) (e : DividerConfiguration), e ∈ entries t → findNearest t e.target = some e.target) ∧
  (∀ (t : RateTable) (r : Freq), findNearest t 0 = some r → ∀ e ∈ entries t, r.toNat ≤ e.target.toNat) ∧
  (∀ (t : RateTable) (r : Freq), findNearest t 18446744073709551615 = some r →
    ∀ e ∈ entries t, e.target.toNat ≤ r.toNat) ∧
  (∀ (t : RateTable) (d : DividerConfiguration) (f : Freq), entries t = [d] → findNearest t f = some d.target)

/-- R69: nothing at or after the first sentinel is read, and no entry has target 0. -/
def Obligations.SentinelEndsTheTable : Prop :=
  (∀ (t rest : RateTable) (d : DividerConfiguration), (∀ e ∈ t, e.target ≠ 0) → d.target = 0 →
    entries (t ++ d :: rest) = t ∧ effLen (t ++ d :: rest) = t.length ∧ entries t = t ∧ effLen t = t.length) ∧
  (∀ (t : RateTable) (e : DividerConfiguration), e ∈ entries t → e.target ≠ 0)

/-- R73: LOOKUP_BY_TARGET returns the first entry with the target, and fails exactly when no entry has it; target 0 never
matches. -/
def Obligations.LookupFindsTheFirstEntry : Prop :=
  ∀ (t : RateTable) (r : Freq),
    (lookupByTarget t r = none ↔ ∀ e ∈ entries t, e.target ≠ r) ∧
    (∀ e, lookupByTarget t r = some e → e.target = r ∧
      ∃ b : Nat, (entries t)[b]? = some e ∧
        ∀ (j : Nat) (d : DividerConfiguration), j < b → (entries t)[j]? = some d → d.target ≠ r) ∧
    lookupByTarget t 0 = none

/-- R74: on a non-empty table the lookup of the nearest target never fails and returns the very entry FIND_NEAREST chose,
so SET_RATE's match fails exactly on an empty table. -/
def Obligations.LookupOfTheNearestNeverFails : Prop :=
  ∀ (t : RateTable) (f : Freq),
    (chosenEntry t f = none ↔ entries t = []) ∧
    (∀ e, chosenEntry t f = some e → findNearest t f = some e.target ∧
      ∃ b : Nat, (entries t)[b]? = some e ∧
        (∀ (j : Nat) (d : DividerConfiguration), (entries t)[j]? = some d →
          distance f e.target ≤ distance f d.target) ∧
        (∀ (j : Nat) (d : DividerConfiguration), (entries t)[j]? = some d → j < b →
          distance f e.target < distance f d.target))

/-- R75, R87, R104: ROUND_RATE in MATCH responds with the nearest target, or with INVALID_CONFIGURATION and 0 on an empty
table; only the response latch and the FSM change. -/
def Obligations.RoundRateRespondsWithTheNearestTarget : Prop :=
  ∀ (f : Freq) (s : State), s.fsm = .matching →
    (∀ r, findNearest s.config.table s.reqFreq = some r →
      exec (.roundRate f) s = .next { s with fsm := .resp, rspStatus := .ok, rspFreq := r }) ∧
    (findNearest s.config.table s.reqFreq = none →
      exec (.roundRate f) s = .next { s with fsm := .resp, rspStatus := .invalidConfiguration, rspFreq := 0 })

/-- R75, R101: from a presented request, two steps bring ROUND_RATE to its response, with no bus access.
That the request is withdrawn with its acceptance is the model's choice (notes/assumptions/7.md). -/
def Obligations.RoundRateRunsToItsResponse : Prop :=
  ∀ (s : State) (f : Freq), Presented s 2 f →
    (∀ r, findNearest s.config.table f = some r →
      run 2 s = .next { s with
        reqOp := .roundRate, reqFreq := f, reqValid := false, fsm := .resp, rspStatus := .ok, rspFreq := r }) ∧
    (findNearest s.config.table f = none →
      run 2 s = .next { s with
        reqOp := .roundRate, reqFreq := f, reqValid := false, fsm := .resp,
        rspStatus := .invalidConfiguration, rspFreq := 0 })

/-! ## SET_RATE, state by state -/

/-- R83, R87, R88: SET_RATE in MATCH latches the chosen entry and goes to PRE for CoreClock above the threshold and to
PROGRAM otherwise; it makes no bus access; on an empty table it responds INVALID_CONFIGURATION at once. -/
def Obligations.SetRateMatchLatchesTheEntry : Prop :=
  ∀ (f : Freq) (s : State), s.fsm = .matching →
    (∀ d, chosenEntry s.config.table s.reqFreq = some d →
      exec (.setRate f) s = .next { s with
        cfg := d,
        fsm := if s.config.variant = .coreClock ∧ s.config.thresholdHz.toNat < s.reqFreq.toNat then .pre
          else .program }) ∧
    (chosenEntry s.config.table s.reqFreq = none →
      exec (.setRate f) s = .next { s with fsm := .resp, rspStatus := .invalidConfiguration, rspFreq := 0 })

/-- R89: PRE writes divide-by-2 to AUX and goes to PROGRAM, touching nothing else; it is entered for CoreClock above the
threshold, and skipped by every other variant. -/
def Obligations.PreWritesDivideByTwo : Prop :=
  (∀ (f : Freq) (s : State) (b : Nat), s.fsm = .pre → s.config.auxBase = some b →
    exec (.setRate f) s = .next { s with
      aux := s.config.auxDiv2Code, auxLast := some s.config.auxDiv2Code,
      history := s.history ++ [.write (b + 0x000) s.config.auxDiv2Code], fsm := .program }) ∧
  (∀ (i : Instr) (s t : State), exec i s = .next t → t.fsm = .pre →
    s.config.variant = .coreClock ∧ s.config.thresholdHz.toNat < s.reqFreq.toNat)

/-- R90: PROGRAM writes the whole encoded word to CTRL without reading it, clears the wait timer and goes to WAIT. -/
def Obligations.ProgramWritesTheEncodedWord : Prop :=
  ∀ (f : Freq) (s : State), s.fsm = .program →
    exec (.setRate f) s = .next { s with
      ctrl := encodeControl s.cfg, waitTimer := 0,
      history := s.history ++ [.write (s.config.mainBase + 0x000) (encodeControl s.cfg)], fsm := .wait }

/-- R83, R91: WAIT stays, with no bus access, while the elapsed time is below `LOCK_WAIT_US × TICKS_PER_US` ticks, and then
goes to CHECK, recording `WaitDone`. That each stay is one tick is the model's choice (notes/assumptions/9.md). -/
def Obligations.WaitStaysUntilTheTimeHasElapsed : Prop :=
  ∀ (f : Freq) (s : State), s.fsm = .wait →
    (s.waitTimer < s.config.lockWaitUs * s.config.ticksPerUs →
      exec (.setRate f) s = .next { s with waitTimer := s.waitTimer + 1 }) ∧
    (s.config.lockWaitUs * s.config.ticksPerUs ≤ s.waitTimer →
      exec (.setRate f) s = .next { s with fsm := .check, history := s.history ++ [.waitDone] })

/-- R92, R103, R104, R59: CHECK reads STATUS once; lock clear is LOCK_TIMEOUT whatever the error bit; error with lock is
HARDWARE_ERROR; both respond with 0; a passed check goes to POST for CoreClock at or below the threshold and else
responds with the nominal rate. Nothing else of the machine changes. -/
def Obligations.CheckTestsLockThenError : Prop :=
  ∀ (f : Freq) (s : State), s.fsm = .check →
    ∃ t, exec (.setRate f) s = .next t ∧
      t = { s with
        fsm := t.fsm, rspStatus := t.rspStatus, rspFreq := t.rspFreq,
        history := s.history ++ [.read (s.config.mainBase + 0x004) (statusAnswer s)],
        statusAnswers := t.statusAnswers, draws := t.draws } ∧
      ((statusAnswer s).getLsbD 0 = false → t.fsm = .resp ∧ t.rspStatus = .lockTimeout ∧ t.rspFreq = 0) ∧
      ((statusAnswer s).getLsbD 0 = true → (statusAnswer s).getLsbD 1 = true →
        t.fsm = .resp ∧ t.rspStatus = .hardwareError ∧ t.rspFreq = 0) ∧
      ((statusAnswer s).getLsbD 0 = true → (statusAnswer s).getLsbD 1 = false →
        (s.config.variant = .coreClock ∧ s.reqFreq.toNat ≤ s.config.thresholdHz.toNat →
          t.fsm = .post ∧ t.rspStatus = s.rspStatus ∧ t.rspFreq = s.rspFreq) ∧
        (¬(s.config.variant = .coreClock ∧ s.reqFreq.toNat ≤ s.config.thresholdHz.toNat) →
          t.fsm = .resp ∧ t.rspStatus = .ok ∧ t.rspFreq = s.cfg.target))

/-- R93: the word CHECK reads can be any word: the PLL's next answer, under no law; the one after is another draw.
The queue of answers is the model's choice (notes/assumptions/5.md). -/
def Obligations.StatusReadIsADraw : Prop :=
  (∀ (s : State) (w : Word), s.statusAnswers = [] →
    ∃ t, hostMove (.statusWillBe w) s = some t ∧ statusAnswer t = w ∧ (takeStatusAnswer t).statusAnswers = []) ∧
  (∀ (s : State) (v w : Word) (ws : List Word), s.statusAnswers = v :: w :: ws →
    statusAnswer s = v ∧ statusAnswer (takeStatusAnswer s) = w) ∧
  (∀ (f : Freq) (s t : State), s.fsm = .check → exec (.setRate f) s = .next t →
    t.statusAnswers = (takeStatusAnswer s).statusAnswers ∧ t.draws = (takeStatusAnswer s).draws)

/-- R94: POST writes divide-by-1 to AUX and responds with the nominal rate; it is entered for CoreClock at or below the
threshold after a passed check, and skipped by every other variant. -/
def Obligations.PostWritesDivideByOne : Prop :=
  (∀ (f : Freq) (s : State) (b : Nat), s.fsm = .post → s.config.auxBase = some b →
    exec (.setRate f) s = .next { s with
      aux := s.config.auxDiv1Code, auxLast := some s.config.auxDiv1Code,
      history := s.history ++ [.write (b + 0x000) s.config.auxDiv1Code],
      fsm := .resp, rspStatus := .ok, rspFreq := s.cfg.target }) ∧
  (∀ (i : Instr) (s t : State), exec i s = .next t → t.fsm = .post →
    s.fsm = .check ∧ (statusAnswer s).getLsbD 0 = true ∧ (statusAnswer s).getLsbD 1 = false ∧
    s.config.variant = .coreClock ∧ s.reqFreq.toNat ≤ s.config.thresholdHz.toNat)

/-- R83, R49: the frame of SET_RATE, state by state: what each state may change, and nothing else; only PROGRAM stores to
CTRL and only PRE and POST to AUX; and every other register on the bus reads as before. -/
def Obligations.SetRateFrame : Prop :=
  ∀ (f : Freq) (s t : State), exec (.setRate f) s = .next t →
    t.config = s.config ∧ t.resetIn = s.resetIn ∧ t.reqOpIn = s.reqOpIn ∧ t.reqFreqIn = s.reqFreqIn ∧
    t.rspReady = s.rspReady ∧ t.ctrlAnswers = s.ctrlAnswers ∧
    (s.fsm ≠ .idle → t.reqOp = s.reqOp ∧ t.reqFreq = s.reqFreq ∧ t.reqValid = s.reqValid) ∧
    (s.fsm ≠ .matching → t.cfg = s.cfg) ∧
    (s.fsm ≠ .matching → s.fsm ≠ .check → s.fsm ≠ .post → t.rspStatus = s.rspStatus ∧ t.rspFreq = s.rspFreq) ∧
    (s.fsm ≠ .program → s.fsm ≠ .wait → t.waitTimer = s.waitTimer) ∧
    (s.fsm ≠ .program → t.ctrl = s.ctrl) ∧
    (s.fsm ≠ .pre → s.fsm ≠ .post → t.aux = s.aux ∧ t.auxLast = s.auxLast) ∧
    (s.fsm ≠ .check → t.statusAnswers = s.statusAnswers ∧ t.draws = s.draws) ∧
    (s.fsm = .idle ∨ s.fsm = .matching ∨ s.fsm = .resp → t.history = s.history) ∧
    (∀ a : Nat, ¬(s.fsm = .program ∧ a = ctrlAddr s.config) →
      ¬((s.fsm = .pre ∨ s.fsm = .post) ∧ auxAddr s.config = some a) → registerAt t a = registerAt s a)

/-- R83, R84: where a command has no transition, its meaning stops by name; and PRE and POST are refused where there is no
`AUX_BASE`. Both are the model's choice, for states no run reaches (notes/assumptions/10.md). -/
def Obligations.OffPathStatesStop : Prop :=
  ∀ (i : Instr) (s : State),
    (onPath i.op s.fsm = false ↔ ∃ r, exec i s = .fault r) ∧
    (onPath i.op s.fsm = false → exec i s = .fault (.noTransition s.fsm)) ∧
    (∀ r, exec i s = .refused r ↔
      r = .constructionFailed ∧ i.op = .setRate ∧ (s.fsm = .pre ∨ s.fsm = .post) ∧ s.config.auxBase = none)

/-- R100, R101, R103, R104: the statuses each command can respond with and where: GET_RATE only OK; ROUND_RATE an error
only on an empty table; SET_RATE INVALID_CONFIGURATION only in MATCH on an empty table, before any bus access, and the
other two only in CHECK; every error with frequency 0. -/
def Obligations.EachCommandRespondsItsOwnStatuses : Prop :=
  ∀ (i : Instr) (s t : State), exec i s = .next t → s.fsm ≠ .resp → t.fsm = .resp →
    (i.op = .getRate → t.rspStatus = .ok) ∧
    (i.op = .roundRate →
      t.rspStatus = .ok ∨ (t.rspStatus = .invalidConfiguration ∧ entries s.config.table = [])) ∧
    (t.rspStatus = .invalidConfiguration →
      s.fsm = .matching ∧ entries s.config.table = [] ∧ t.history = s.history) ∧
    (t.rspStatus = .lockTimeout ∨ t.rspStatus = .hardwareError → i.op = .setRate ∧ s.fsm = .check) ∧
    (t.rspStatus ≠ .ok → t.rspFreq = 0)

/-! ## SET_RATE, whole -/

/-- R91, R119: entered with a cleared timer, WAIT lasts exactly its ticks and one step more, and all of them change nothing
but the timer, the FSM and the one `WaitDone`. That a step is one tick is the model's choice (notes/assumptions/9.md). -/
def Obligations.WaitLastsItsTicks : Prop :=
  ∀ s : State, instanceExists s.config = true → s.resetIn = false → s.fsm = .wait → s.reqOp = .setRate →
    s.waitTimer = 0 →
    (∀ k, k ≤ waitTicks s.config → run k s = .next { s with waitTimer := k }) ∧
    run (waitTicks s.config + 1) s = .next { s with
      waitTimer := waitTicks s.config, fsm := .check, history := s.history ++ [.waitDone] }

/-- R49, R84, R98: from a presented request, SET_RATE runs through its states to its response: the events in order, the
response, CTRL, AUX and its record, for every STATUS word the PLL answers. The number of steps counts one for each tick
of WAIT (notes/assumptions/9.md), and the request is withdrawn with its acceptance (notes/assumptions/7.md): both are the
model's choice. -/
def Obligations.SetRateRunsItsWholeSequence : Prop :=
  ∀ (s : State) (f : Freq) (d : DividerConfiguration), Presented s 1 f →
    chosenEntry s.config.table f = some d →
    ∃ t, run (setRateSteps s.config f (statusAnswer s)) s = .next t ∧ t.fsm = .resp ∧
      t.reqOp = .setRate ∧ t.reqFreq = f ∧ t.cfg = d ∧
      t.history = s.history ++ setRateEvents s.config f d (statusAnswer s) ∧
      (t.rspStatus, t.rspFreq) = setRateResponse d (statusAnswer s) ∧
      t.ctrl = encodeControl d ∧
      t.aux = (setRateAux s.config f (statusAnswer s)).getD s.aux ∧
      t.auxLast = (setRateAux s.config f (statusAnswer s)).or s.auxLast ∧
      t.config = s.config ∧ t.resetIn = false ∧ t.reqValid = false ∧ t.rspReady = s.rspReady

/-- R84, R103, R49: SET_RATE on an empty table responds INVALID_CONFIGURATION before any bus access, whatever the variant
and the threshold. That the request is withdrawn with its acceptance is the model's choice (notes/assumptions/7.md). -/
def Obligations.SetRateOnAnEmptyTableTouchesNothing : Prop :=
  ∀ (s : State) (f : Freq), Presented s 1 f → entries s.config.table = [] →
    run 2 s = .next { s with
      reqOp := .setRate, reqFreq := f, reqValid := false, fsm := .resp,
      rspStatus := .invalidConfiguration, rspFreq := 0 }

/-- R98: the events one SET_RATE that finds an entry adds to the history. For CoreClock the divide-by-2 write is the first
of them above the threshold, and the divide-by-1 write the last of them at or below it when the STATUS word has lock and
no error; there is no other AUX write. The other variants access no AUX, even where they were given an `AUX_BASE`. The
number of steps is the model's choice (notes/assumptions/9.md). -/
def Obligations.AuxWritesFrameTheReprogramming : Prop :=
  ∀ (s : State) (f : Freq) (d : DividerConfiguration), Presented s 1 f → chosenEntry s.config.table f = some d →
    ∃ t, run (setRateSteps s.config f (statusAnswer s)) s = .next t ∧ t.fsm = .resp ∧
      (∀ b, s.config.auxBase = some b → b ≠ s.config.mainBase ∧ b ≠ s.config.mainBase + 4) ∧
      (s.config.variant = .coreClock → ∃ b, s.config.auxBase = some b ∧
        (s.config.thresholdHz.toNat < f.toNat →
          t.history = s.history ++ [.write b s.config.auxDiv2Code, .write s.config.mainBase (encodeControl d),
            .waitDone, .read (s.config.mainBase + 4) (statusAnswer s)]) ∧
        (f.toNat ≤ s.config.thresholdHz.toNat →
          (statusAnswer s).getLsbD 0 = true → (statusAnswer s).getLsbD 1 = false →
          t.history = s.history ++ [.write s.config.mainBase (encodeControl d), .waitDone,
            .read (s.config.mainBase + 4) (statusAnswer s), .write b s.config.auxDiv1Code]) ∧
        (f.toNat ≤ s.config.thresholdHz.toNat →
          ¬((statusAnswer s).getLsbD 0 = true ∧ (statusAnswer s).getLsbD 1 = false) →
          t.history = s.history ++ [.write s.config.mainBase (encodeControl d), .waitDone,
            .read (s.config.mainBase + 4) (statusAnswer s)])) ∧
      (s.config.variant ≠ .coreClock →
        t.history = s.history ++ [.write s.config.mainBase (encodeControl d), .waitDone,
          .read (s.config.mainBase + 4) (statusAnswer s)])

/-- R75, R84: ROUND_RATE previews SET_RATE: where SET_RATE succeeds, it responds what ROUND_RATE responds to the same
request on the same configuration. The number of steps is the model's choice (notes/assumptions/9.md). -/
def Obligations.RoundRatePreviewsSetRate : Prop :=
  ∀ (s u : State) (f : Freq) (d : DividerConfiguration), Presented s 1 f → Presented u 2 f → s.config = u.config →
    chosenEntry s.config.table f = some d → statusError (statusAnswer s) = none →
    ∃ t v, run (setRateSteps s.config f (statusAnswer s)) s = .next t ∧ run 2 u = .next v ∧
      t.fsm = .resp ∧ v.fsm = .resp ∧ responsePort t = responsePort v

/-- R81, R97, R123: after SET_RATE, whatever its outcome, a GET_RATE under Storage responds OK with the decoded rate of the
entry programmed, not with its target. The number of steps is the model's choice (notes/assumptions/9.md), and so is
`presentWord`, which stands for the requester's presenting GET_RATE (notes/assumptions/15.md). -/
def Obligations.GetRateAfterSetRateDecodesTheEntry : Prop :=
  ∀ (s : State) (f x : Freq) (d : DividerConfiguration), Presented s 1 f → s.config.ctrlReadback = .storage →
    s.rspReady = true → chosenEntry s.config.table f = some d →
    ∃ t u, run (setRateSteps s.config f (statusAnswer s) + 1) s = .next t ∧ t.fsm = .idle ∧
      run 2 (presentWord (encode (.getRate x)) t) = .next u ∧ u.fsm = .resp ∧ u.rspStatus = .ok ∧
      u.rspFreq.toNat =
        s.config.refHz.toNat * 2 * (d.fbdiv.toNat + 1) / ((d.idiv.toNat + 1) * 2 ^ d.odiv.toNat)

/-- R121 case b: where the table's author kept the duty, divide-by-1 is written only where the entry programmed is
at or below the threshold: in POST, at every step that writes the divide-by-1 code to AUX, and over a whole SET_RATE whose
last event is that write. The number of steps is the model's choice (notes/assumptions/9.md). -/
def Obligations.DutifulTableNeverOverclocks : Prop :=
  (∀ s : State, s.Inv → tableKeepsSides s.config → s.fsm = .post →
    s.cfg.target.toNat ≤ s.config.thresholdHz.toNat) ∧
  (∀ (s t : State) (b : Nat), s.Inv → tableKeepsSides s.config → s.config.auxBase = some b → step s = .next t →
    t.history = s.history ++ [.write b s.config.auxDiv1Code] →
    s.fsm = .post ∧ t.cfg.target.toNat ≤ t.config.thresholdHz.toNat ∧
      t.rspFreq.toNat ≤ t.config.thresholdHz.toNat) ∧
  (∀ (s : State) (f : Freq) (d : DividerConfiguration), Presented s 1 f → tableKeepsSides s.config →
    chosenEntry s.config.table f = some d →
    ∃ t, run (setRateSteps s.config f (statusAnswer s)) s = .next t ∧ t.ctrl = encodeControl d ∧
      ∀ (b : Nat) (h : List Event), s.config.auxBase = some b →
        t.history = h ++ [.write b s.config.auxDiv1Code] → d.target.toNat ≤ s.config.thresholdHz.toNat)

/-! ## Invariants of every step -/

/-- R17, R20, R22, R29, R31, R49, R60, R64, R83: every step keeps the invariant. Two of its parts are the model's choice:
that WAIT's timer never passes its bound, since R91 lets an implementation wait longer (notes/assumptions/9.md), and, for a
step under the reset input, that the response latch then holds OK and 0 (notes/assumptions/4.md). -/
def Obligations.EveryStepKeepsTheInvariant : Prop :=
  ∀ s t : State, s.Inv → step s = .next t → t.Inv

/-- R38: the invariant holds after bring-up of a configuration that passed construction, and at the reset state. The
reset state's configuration and its unspecified latches are the model's choice (notes/assumptions/2.md, 4.md). -/
def Obligations.InvariantHoldsAtReset : Prop :=
  (∀ (c : Config) (ctrl aux : Word), instanceExists c = true → (State.bringUp c ctrl aux).Inv) ∧ State.reset.Inv

/-- R15, R22, R29, R31, R49, R60, R64, R83, R88, R114, R115, R116: every reachable state, over all moves of the requester,
the reset line and the PLL, meets the invariant. What the moves are is the model's choice (notes/assumptions/5.md, 6.md,
7.md, 14.md, 22.md), and so are two parts of the invariant: that WAIT's timer never passes its bound
(notes/assumptions/9.md), and that the response latch holds OK and 0 after bring-up and under the reset input
(notes/assumptions/4.md). -/
def Obligations.ReachableStatesMeetTheInvariant : Prop :=
  ∀ s : State, Reachable s → s.Inv

/-- R17, R18: no step changes the configuration, the Rate Table in it included. -/
def Obligations.ConfigurationNeverChanges : Prop :=
  ∀ s t : State, step s = .next t → t.config = s.config

/-- R106: in a state that meets the invariant the block is never stuck: it answers a next state unless a reserved command
is presented to it, which it refuses. -/
def Obligations.NoStateIsStuck : Prop :=
  ∀ s : State, s.Inv →
    (∃ t, step s = .next t) ∨
      (step s = .refused .reservedCommand ∧ s.fsm = .idle ∧ s.reqValid = true ∧ s.reqOpIn = 3)

/-- R96, R106: every command in progress reaches its response in a bounded number of steps. The bound counts one step for
each tick of WAIT by the model's choice (notes/assumptions/9.md). -/
def Obligations.EveryCommandIsAnswered : Prop :=
  ∀ s : State, s.Inv → s.resetIn = false → inProgress s = true →
    ∃ (k : Nat) (t : State), k ≤ waitTicks s.config + 6 ∧ run k s = .next t ∧ t.fsm = .resp ∧
      t.reqOp = s.reqOp ∧ t.reqFreq = s.reqFreq

/-- R28, R49: the block never reads FMEAS, MON or AUX and never writes STATUS, FMEAS or MON. -/
def Obligations.UnusedRegistersAreNeverAccessed : Prop :=
  ∀ (s : State) (a : Nat) (v : Word), s.Inv →
    (some a = registerAddr s.config .fmeas ∨ some a = registerAddr s.config .mon →
      .read a v ∉ s.history ∧ .write a v ∉ s.history) ∧
    (some a = registerAddr s.config .status → .write a v ∉ s.history) ∧
    (some a = registerAddr s.config .aux → .read a v ∉ s.history)

/-- R29, R85, R98: a SystemPll or HdmiPll instance never accesses AUX, even where it was given an `AUX_BASE`. -/
def Obligations.OtherVariantsNeverTouchAux : Prop :=
  ∀ s : State, s.Inv → s.config.variant ≠ .coreClock →
    s.auxLast = none ∧ (∀ t, step s = .next t → t.aux = s.aux) ∧
    (∀ (a : Nat) (v : Word), s.config.auxBase = some a → .write a v ∉ s.history ∧ .read a v ∉ s.history)

/-- R113, R76: every word the block wrote to CTRL has PD, BYPASS and bits 19:16 clear, so a rate is never 0 by it. -/
def Obligations.CtrlWritesNeverPowerDown : Prop :=
  ∀ (s : State) (v : Word), s.Inv → .write s.config.mainBase v ∈ s.history →
    v.getLsbD 0 = false ∧ v.getLsbD 1 = false ∧ unassignedField v = 0

/-- R32, R35, R50: with the reset input released, a step adds at most one bus transaction to the history and removes none,
and `WaitDone` comes of WAIT alone; the same of one command's transition in any state. (Under the asserted reset input the
step makes no bus access, and the model empties the history: ResetReturnsToIdleFromAnyState.) -/
def Obligations.OneTransactionAStep : Prop :=
  (∀ s t : State, s.resetIn = false → step s = .next t →
    t.history = s.history ∨ ∃ e, t.history = s.history ++ [e] ∧ (e = .waitDone ↔ s.fsm = .wait)) ∧
  (∀ (i : Instr) (s t : State), exec i s = .next t →
    t.history = s.history ∨ ∃ e, t.history = s.history ++ [e] ∧ (e = .waitDone ↔ s.fsm = .wait))

/-- R37: the requester's moves: a request may be presented only when none is pending or unanswered, and no move of the
outside changes a register, a latch, the FSM or the history, nor breaks the invariant. What the moves are, and that a
request bars the next one until the FSM is back in IDLE, by its response or by reset, are the model's choice (notes/assumptions/5.md, 6.md, 7.md,
14.md, 22.md). -/
def Obligations.HostMovesTouchOnlyThePorts : Prop :=
  (∀ (s : State) (op : BitVec 2) (f : Freq), (∃ t, hostMove (.present op f) s = some t) ↔
    s.fsm = .idle ∧ s.reqValid = false) ∧
  (∀ (s t : State) (m : HostMove), hostMove m s = some t →
    t = { s with
      resetIn := t.resetIn, reqValid := t.reqValid, reqOpIn := t.reqOpIn, reqFreqIn := t.reqFreqIn,
      rspReady := t.rspReady, statusAnswers := t.statusAnswers, ctrlAnswers := t.ctrlAnswers }) ∧
  (∀ (s t : State) (m : HostMove), s.Inv → hostMove m s = some t → t.Inv)

/-! ## Construction and several instances -/

/-- R115, R43, R44, R46, R61, R70: construction succeeds exactly when all eight checks hold. -/
def Obligations.ConstructionChecksAllEightItems : Prop :=
  ∀ (tables : RateTables) (others : List Region) (i : ConstructionInputs),
    (∃ c, construct tables others i = .ok c) ↔
      (i.variant = .coreClock → i.auxBase ≠ none) ∧
      (∃ m, i.mainBase = some m ∧ m % 4 = 0 ∧ m + 0x00F < 2 ^ i.addrWidth ∧
        (∀ b, i.auxBase = some b → m + 16 ≤ b ∨ b + 4 ≤ m) ∧
        (∀ r ∈ others, m + 16 ≤ r.base ∨ r.base + r.size ≤ m)) ∧
      (∀ b, i.auxBase = some b → b % 4 = 0 ∧ b + 0x003 < 2 ^ i.addrWidth ∧
        (∀ r ∈ others, b + 4 ≤ r.base ∨ r.base + r.size ≤ b)) ∧
      ((∀ e ∈ (selectedTable tables i.variant).takeWhile (fun e => e.target != 0),
          e.target < 2 ^ 64 ∧ e.idiv ≤ 31 ∧ e.fbdiv ≤ 127 ∧ e.odiv ≤ 3 ∧ e.band ≤ 4095) ∧
        (((selectedTable tables i.variant).takeWhile (fun e => e.target != 0)).map (fun e => e.target)).Nodup) ∧
      i.auxDiv1Code ≠ i.auxDiv2Code ∧ i.refHz < 2 ^ 56

/-- R17, R36, R68, R115: a constructed configuration has an instance, and its record holds every input as it was given,
with the whole entries of the table its variant selects, up to the sentinel and in order. -/
def Obligations.ConstructedConfigurationHasAnInstance : Prop :=
  ∀ (tables : RateTables) (others : List Region) (i : ConstructionInputs) (c : Config),
    construct tables others i = .ok c →
    instanceExists c = true ∧ c.variant = i.variant ∧ some c.mainBase = i.mainBase ∧ c.auxBase = i.auxBase ∧
    c.addrWidth = i.addrWidth ∧ c.refHz.toNat = i.refHz ∧ c.thresholdHz = i.thresholdHz ∧
    c.lockWaitUs = i.lockWaitUs ∧ c.ticksPerUs = i.ticksPerUs ∧ c.auxDiv1Code = i.auxDiv1Code ∧
    c.auxDiv2Code = i.auxDiv2Code ∧ c.ctrlReadback = i.ctrlReadback ∧ c.busByteOrder = i.busByteOrder ∧
    c.otherRegions = others ∧
    c.table.map (fun d => (⟨d.target.toNat, d.idiv.toNat, d.fbdiv.toNat, d.odiv.toNat, d.band.toNat⟩ : RawEntry)) =
      (if i.variant = .hdmiPll then tables.hdmi else tables.generic).takeWhile (fun e => e.target != 0)

/-- R44, R68, R111: the instances of one system. A set is refused exactly when two of the instances its inputs give claim
a common address. Otherwise each input stands or falls by the checks of its own, the instances built claim disjoint
regions, and those of variants that share a Rate Table have the same table. That inputs which fail a check of their own
claim no region is the model's inference (notes/assumptions/19.md). -/
def Obligations.BuiltInstancesShareNoAddress : Prop :=
  ∀ (tables : RateTables) (is : List ConstructionInputs),
    ((∃ e, constructAll tables is = .error e) ↔
      ∃ (j k : Nat) (a b : ConstructionInputs) (c d : Config), j ≠ k ∧ is[j]? = some a ∧ is[k]? = some b ∧
        construct tables [] a = .ok c ∧ construct tables [] b = .ok d ∧
        ∃ r ∈ instanceRegions c, ∃ q ∈ instanceRegions d, q.base < r.base + r.size ∧ r.base < q.base + q.size) ∧
    (∀ rs, constructAll tables is = .ok rs →
      rs.length = is.length ∧
      (∀ (k : Nat) (i : ConstructionInputs), is[k]? = some i →
        ((∃ c, rs[k]? = some (.ok c)) ↔ ∃ c, construct tables [] i = .ok c)) ∧
      (∀ (j k : Nat) (c d : Config), j ≠ k → rs[j]? = some (.ok c) → rs[k]? = some (.ok d) →
        (∀ r ∈ instanceRegions c, ∀ q ∈ instanceRegions d,
          r.base + r.size ≤ q.base ∨ q.base + q.size ≤ r.base) ∧
        ((c.variant = .hdmiPll ↔ d.variant = .hdmiPll) → c.table = d.table)))

/-- R51, R111: a step of one instance is that instance's step and leaves every other as it was. That one instance steps at
a time is the model's inference (notes/assumptions/19.md). -/
def Obligations.InstancesAreIndependent : Prop :=
  ∀ (k : Nat) (insts insts' : List State), stepInstance k insts = some (.next insts') →
    insts'.length = insts.length ∧ (∀ j, j ≠ k → insts'[j]? = insts[j]?) ∧
    ∃ s t, insts[k]? = some s ∧ step s = .next t ∧ insts'[k]? = some t
end

