-- ==== Sys2Proof/Laws/State.lean ====
section
/-!
SUPPORT. What every named update of the state leaves in every field, so that no later proof unfolds an update.
-/

namespace Sys2Proof.Machine

/-! `record` -/

@[simp] theorem record_config (e : Event) (s : State) : (record e s).config = s.config := rfl
@[simp] theorem record_fsm (e : Event) (s : State) : (record e s).fsm = s.fsm := rfl
@[simp] theorem record_reqOp (e : Event) (s : State) : (record e s).reqOp = s.reqOp := rfl
@[simp] theorem record_reqFreq (e : Event) (s : State) : (record e s).reqFreq = s.reqFreq := rfl
@[simp] theorem record_cfg (e : Event) (s : State) : (record e s).cfg = s.cfg := rfl
@[simp] theorem record_rspStatus (e : Event) (s : State) : (record e s).rspStatus = s.rspStatus := rfl
@[simp] theorem record_rspFreq (e : Event) (s : State) : (record e s).rspFreq = s.rspFreq := rfl
@[simp] theorem record_waitTimer (e : Event) (s : State) : (record e s).waitTimer = s.waitTimer := rfl
@[simp] theorem record_ctrl (e : Event) (s : State) : (record e s).ctrl = s.ctrl := rfl
@[simp] theorem record_aux (e : Event) (s : State) : (record e s).aux = s.aux := rfl
@[simp] theorem record_auxLast (e : Event) (s : State) : (record e s).auxLast = s.auxLast := rfl
@[simp] theorem record_history (e : Event) (s : State) : (record e s).history = s.history ++ [e] := rfl
@[simp] theorem record_resetIn (e : Event) (s : State) : (record e s).resetIn = s.resetIn := rfl
@[simp] theorem record_reqValid (e : Event) (s : State) : (record e s).reqValid = s.reqValid := rfl
@[simp] theorem record_reqOpIn (e : Event) (s : State) : (record e s).reqOpIn = s.reqOpIn := rfl
@[simp] theorem record_reqFreqIn (e : Event) (s : State) : (record e s).reqFreqIn = s.reqFreqIn := rfl
@[simp] theorem record_rspReady (e : Event) (s : State) : (record e s).rspReady = s.rspReady := rfl
@[simp] theorem record_statusAnswers (e : Event) (s : State) : (record e s).statusAnswers = s.statusAnswers := rfl
@[simp] theorem record_ctrlAnswers (e : Event) (s : State) : (record e s).ctrlAnswers = s.ctrlAnswers := rfl
@[simp] theorem record_draws (e : Event) (s : State) : (record e s).draws = s.draws := rfl

/-! `goto` -/

@[simp] theorem goto_config (f : Fsm) (s : State) : (goto f s).config = s.config := rfl
@[simp] theorem goto_fsm (f : Fsm) (s : State) : (goto f s).fsm = f := rfl
@[simp] theorem goto_reqOp (f : Fsm) (s : State) : (goto f s).reqOp = s.reqOp := rfl
@[simp] theorem goto_reqFreq (f : Fsm) (s : State) : (goto f s).reqFreq = s.reqFreq := rfl
@[simp] theorem goto_cfg (f : Fsm) (s : State) : (goto f s).cfg = s.cfg := rfl
@[simp] theorem goto_rspStatus (f : Fsm) (s : State) : (goto f s).rspStatus = s.rspStatus := rfl
@[simp] theorem goto_rspFreq (f : Fsm) (s : State) : (goto f s).rspFreq = s.rspFreq := rfl
@[simp] theorem goto_waitTimer (f : Fsm) (s : State) : (goto f s).waitTimer = s.waitTimer := rfl
@[simp] theorem goto_ctrl (f : Fsm) (s : State) : (goto f s).ctrl = s.ctrl := rfl
@[simp] theorem goto_aux (f : Fsm) (s : State) : (goto f s).aux = s.aux := rfl
@[simp] theorem goto_auxLast (f : Fsm) (s : State) : (goto f s).auxLast = s.auxLast := rfl
@[simp] theorem goto_history (f : Fsm) (s : State) : (goto f s).history = s.history := rfl
@[simp] theorem goto_resetIn (f : Fsm) (s : State) : (goto f s).resetIn = s.resetIn := rfl
@[simp] theorem goto_reqValid (f : Fsm) (s : State) : (goto f s).reqValid = s.reqValid := rfl
@[simp] theorem goto_reqOpIn (f : Fsm) (s : State) : (goto f s).reqOpIn = s.reqOpIn := rfl
@[simp] theorem goto_reqFreqIn (f : Fsm) (s : State) : (goto f s).reqFreqIn = s.reqFreqIn := rfl
@[simp] theorem goto_rspReady (f : Fsm) (s : State) : (goto f s).rspReady = s.rspReady := rfl
@[simp] theorem goto_statusAnswers (f : Fsm) (s : State) : (goto f s).statusAnswers = s.statusAnswers := rfl
@[simp] theorem goto_ctrlAnswers (f : Fsm) (s : State) : (goto f s).ctrlAnswers = s.ctrlAnswers := rfl
@[simp] theorem goto_draws (f : Fsm) (s : State) : (goto f s).draws = s.draws := rfl

/-! `latchConfiguration` -/

@[simp] theorem latchConfiguration_config (d : DividerConfiguration) (s : State) : (latchConfiguration d s).config = s.config := rfl
@[simp] theorem latchConfiguration_fsm (d : DividerConfiguration) (s : State) : (latchConfiguration d s).fsm = s.fsm := rfl
@[simp] theorem latchConfiguration_reqOp (d : DividerConfiguration) (s : State) : (latchConfiguration d s).reqOp = s.reqOp := rfl
@[simp] theorem latchConfiguration_reqFreq (d : DividerConfiguration) (s : State) : (latchConfiguration d s).reqFreq = s.reqFreq := rfl
@[simp] theorem latchConfiguration_cfg (d : DividerConfiguration) (s : State) : (latchConfiguration d s).cfg = d := rfl
@[simp] theorem latchConfiguration_rspStatus (d : DividerConfiguration) (s : State) : (latchConfiguration d s).rspStatus = s.rspStatus := rfl
@[simp] theorem latchConfiguration_rspFreq (d : DividerConfiguration) (s : State) : (latchConfiguration d s).rspFreq = s.rspFreq := rfl
@[simp] theorem latchConfiguration_waitTimer (d : DividerConfiguration) (s : State) : (latchConfiguration d s).waitTimer = s.waitTimer := rfl
@[simp] theorem latchConfiguration_ctrl (d : DividerConfiguration) (s : State) : (latchConfiguration d s).ctrl = s.ctrl := rfl
@[simp] theorem latchConfiguration_aux (d : DividerConfiguration) (s : State) : (latchConfiguration d s).aux = s.aux := rfl
@[simp] theorem latchConfiguration_auxLast (d : DividerConfiguration) (s : State) : (latchConfiguration d s).auxLast = s.auxLast := rfl
@[simp] theorem latchConfiguration_history (d : DividerConfiguration) (s : State) : (latchConfiguration d s).history = s.history := rfl
@[simp] theorem latchConfiguration_resetIn (d : DividerConfiguration) (s : State) : (latchConfiguration d s).resetIn = s.resetIn := rfl
@[simp] theorem latchConfiguration_reqValid (d : DividerConfiguration) (s : State) : (latchConfiguration d s).reqValid = s.reqValid := rfl
@[simp] theorem latchConfiguration_reqOpIn (d : DividerConfiguration) (s : State) : (latchConfiguration d s).reqOpIn = s.reqOpIn := rfl
@[simp] theorem latchConfiguration_reqFreqIn (d : DividerConfiguration) (s : State) : (latchConfiguration d s).reqFreqIn = s.reqFreqIn := rfl
@[simp] theorem latchConfiguration_rspReady (d : DividerConfiguration) (s : State) : (latchConfiguration d s).rspReady = s.rspReady := rfl
@[simp] theorem latchConfiguration_statusAnswers (d : DividerConfiguration) (s : State) : (latchConfiguration d s).statusAnswers = s.statusAnswers := rfl
@[simp] theorem latchConfiguration_ctrlAnswers (d : DividerConfiguration) (s : State) : (latchConfiguration d s).ctrlAnswers = s.ctrlAnswers := rfl
@[simp] theorem latchConfiguration_draws (d : DividerConfiguration) (s : State) : (latchConfiguration d s).draws = s.draws := rfl

/-! `clearTimer` -/

@[simp] theorem clearTimer_config (s : State) : (clearTimer s).config = s.config := rfl
@[simp] theorem clearTimer_fsm (s : State) : (clearTimer s).fsm = s.fsm := rfl
@[simp] theorem clearTimer_reqOp (s : State) : (clearTimer s).reqOp = s.reqOp := rfl
@[simp] theorem clearTimer_reqFreq (s : State) : (clearTimer s).reqFreq = s.reqFreq := rfl
@[simp] theorem clearTimer_cfg (s : State) : (clearTimer s).cfg = s.cfg := rfl
@[simp] theorem clearTimer_rspStatus (s : State) : (clearTimer s).rspStatus = s.rspStatus := rfl
@[simp] theorem clearTimer_rspFreq (s : State) : (clearTimer s).rspFreq = s.rspFreq := rfl
@[simp] theorem clearTimer_waitTimer (s : State) : (clearTimer s).waitTimer = 0 := rfl
@[simp] theorem clearTimer_ctrl (s : State) : (clearTimer s).ctrl = s.ctrl := rfl
@[simp] theorem clearTimer_aux (s : State) : (clearTimer s).aux = s.aux := rfl
@[simp] theorem clearTimer_auxLast (s : State) : (clearTimer s).auxLast = s.auxLast := rfl
@[simp] theorem clearTimer_history (s : State) : (clearTimer s).history = s.history := rfl
@[simp] theorem clearTimer_resetIn (s : State) : (clearTimer s).resetIn = s.resetIn := rfl
@[simp] theorem clearTimer_reqValid (s : State) : (clearTimer s).reqValid = s.reqValid := rfl
@[simp] theorem clearTimer_reqOpIn (s : State) : (clearTimer s).reqOpIn = s.reqOpIn := rfl
@[simp] theorem clearTimer_reqFreqIn (s : State) : (clearTimer s).reqFreqIn = s.reqFreqIn := rfl
@[simp] theorem clearTimer_rspReady (s : State) : (clearTimer s).rspReady = s.rspReady := rfl
@[simp] theorem clearTimer_statusAnswers (s : State) : (clearTimer s).statusAnswers = s.statusAnswers := rfl
@[simp] theorem clearTimer_ctrlAnswers (s : State) : (clearTimer s).ctrlAnswers = s.ctrlAnswers := rfl
@[simp] theorem clearTimer_draws (s : State) : (clearTimer s).draws = s.draws := rfl

/-! `tick` -/

@[simp] theorem tick_config (s : State) : (tick s).config = s.config := rfl
@[simp] theorem tick_fsm (s : State) : (tick s).fsm = s.fsm := rfl
@[simp] theorem tick_reqOp (s : State) : (tick s).reqOp = s.reqOp := rfl
@[simp] theorem tick_reqFreq (s : State) : (tick s).reqFreq = s.reqFreq := rfl
@[simp] theorem tick_cfg (s : State) : (tick s).cfg = s.cfg := rfl
@[simp] theorem tick_rspStatus (s : State) : (tick s).rspStatus = s.rspStatus := rfl
@[simp] theorem tick_rspFreq (s : State) : (tick s).rspFreq = s.rspFreq := rfl
@[simp] theorem tick_waitTimer (s : State) : (tick s).waitTimer = s.waitTimer + 1 := rfl
@[simp] theorem tick_ctrl (s : State) : (tick s).ctrl = s.ctrl := rfl
@[simp] theorem tick_aux (s : State) : (tick s).aux = s.aux := rfl
@[simp] theorem tick_auxLast (s : State) : (tick s).auxLast = s.auxLast := rfl
@[simp] theorem tick_history (s : State) : (tick s).history = s.history := rfl
@[simp] theorem tick_resetIn (s : State) : (tick s).resetIn = s.resetIn := rfl
@[simp] theorem tick_reqValid (s : State) : (tick s).reqValid = s.reqValid := rfl
@[simp] theorem tick_reqOpIn (s : State) : (tick s).reqOpIn = s.reqOpIn := rfl
@[simp] theorem tick_reqFreqIn (s : State) : (tick s).reqFreqIn = s.reqFreqIn := rfl
@[simp] theorem tick_rspReady (s : State) : (tick s).rspReady = s.rspReady := rfl
@[simp] theorem tick_statusAnswers (s : State) : (tick s).statusAnswers = s.statusAnswers := rfl
@[simp] theorem tick_ctrlAnswers (s : State) : (tick s).ctrlAnswers = s.ctrlAnswers := rfl
@[simp] theorem tick_draws (s : State) : (tick s).draws = s.draws := rfl

/-! `acceptRequest` -/

@[simp] theorem acceptRequest_config (op : Op) (f : Freq) (d : Fsm) (s : State) : (acceptRequest op f d s).config = s.config := rfl
@[simp] theorem acceptRequest_fsm (op : Op) (f : Freq) (d : Fsm) (s : State) : (acceptRequest op f d s).fsm = d := rfl
@[simp] theorem acceptRequest_reqOp (op : Op) (f : Freq) (d : Fsm) (s : State) : (acceptRequest op f d s).reqOp = op := rfl
@[simp] theorem acceptRequest_reqFreq (op : Op) (f : Freq) (d : Fsm) (s : State) : (acceptRequest op f d s).reqFreq = f := rfl
@[simp] theorem acceptRequest_cfg (op : Op) (f : Freq) (d : Fsm) (s : State) : (acceptRequest op f d s).cfg = s.cfg := rfl
@[simp] theorem acceptRequest_rspStatus (op : Op) (f : Freq) (d : Fsm) (s : State) : (acceptRequest op f d s).rspStatus = s.rspStatus := rfl
@[simp] theorem acceptRequest_rspFreq (op : Op) (f : Freq) (d : Fsm) (s : State) : (acceptRequest op f d s).rspFreq = s.rspFreq := rfl
@[simp] theorem acceptRequest_waitTimer (op : Op) (f : Freq) (d : Fsm) (s : State) : (acceptRequest op f d s).waitTimer = s.waitTimer := rfl
@[simp] theorem acceptRequest_ctrl (op : Op) (f : Freq) (d : Fsm) (s : State) : (acceptRequest op f d s).ctrl = s.ctrl := rfl
@[simp] theorem acceptRequest_aux (op : Op) (f : Freq) (d : Fsm) (s : State) : (acceptRequest op f d s).aux = s.aux := rfl
@[simp] theorem acceptRequest_auxLast (op : Op) (f : Freq) (d : Fsm) (s : State) : (acceptRequest op f d s).auxLast = s.auxLast := rfl
@[simp] theorem acceptRequest_history (op : Op) (f : Freq) (d : Fsm) (s : State) : (acceptRequest op f d s).history = s.history := rfl
@[simp] theorem acceptRequest_resetIn (op : Op) (f : Freq) (d : Fsm) (s : State) : (acceptRequest op f d s).resetIn = s.resetIn := rfl
@[simp] theorem acceptRequest_reqValid (op : Op) (f : Freq) (d : Fsm) (s : State) : (acceptRequest op f d s).reqValid = false := rfl
@[simp] theorem acceptRequest_reqOpIn (op : Op) (f : Freq) (d : Fsm) (s : State) : (acceptRequest op f d s).reqOpIn = s.reqOpIn := rfl
@[simp] theorem acceptRequest_reqFreqIn (op : Op) (f : Freq) (d : Fsm) (s : State) : (acceptRequest op f d s).reqFreqIn = s.reqFreqIn := rfl
@[simp] theorem acceptRequest_rspReady (op : Op) (f : Freq) (d : Fsm) (s : State) : (acceptRequest op f d s).rspReady = s.rspReady := rfl
@[simp] theorem acceptRequest_statusAnswers (op : Op) (f : Freq) (d : Fsm) (s : State) : (acceptRequest op f d s).statusAnswers = s.statusAnswers := rfl
@[simp] theorem acceptRequest_ctrlAnswers (op : Op) (f : Freq) (d : Fsm) (s : State) : (acceptRequest op f d s).ctrlAnswers = s.ctrlAnswers := rfl
@[simp] theorem acceptRequest_draws (op : Op) (f : Freq) (d : Fsm) (s : State) : (acceptRequest op f d s).draws = s.draws := rfl

/-! `respond` -/

@[simp] theorem respond_config (x : RspStatus) (f : Freq) (s : State) : (respond x f s).config = s.config := rfl
@[simp] theorem respond_fsm (x : RspStatus) (f : Freq) (s : State) : (respond x f s).fsm = .resp := rfl
@[simp] theorem respond_reqOp (x : RspStatus) (f : Freq) (s : State) : (respond x f s).reqOp = s.reqOp := rfl
@[simp] theorem respond_reqFreq (x : RspStatus) (f : Freq) (s : State) : (respond x f s).reqFreq = s.reqFreq := rfl
@[simp] theorem respond_cfg (x : RspStatus) (f : Freq) (s : State) : (respond x f s).cfg = s.cfg := rfl
@[simp] theorem respond_rspStatus (x : RspStatus) (f : Freq) (s : State) : (respond x f s).rspStatus = x := rfl
@[simp] theorem respond_rspFreq (x : RspStatus) (f : Freq) (s : State) : (respond x f s).rspFreq = f := rfl
@[simp] theorem respond_waitTimer (x : RspStatus) (f : Freq) (s : State) : (respond x f s).waitTimer = s.waitTimer := rfl
@[simp] theorem respond_ctrl (x : RspStatus) (f : Freq) (s : State) : (respond x f s).ctrl = s.ctrl := rfl
@[simp] theorem respond_aux (x : RspStatus) (f : Freq) (s : State) : (respond x f s).aux = s.aux := rfl
@[simp] theorem respond_auxLast (x : RspStatus) (f : Freq) (s : State) : (respond x f s).auxLast = s.auxLast := rfl
@[simp] theorem respond_history (x : RspStatus) (f : Freq) (s : State) : (respond x f s).history = s.history := rfl
@[simp] theorem respond_resetIn (x : RspStatus) (f : Freq) (s : State) : (respond x f s).resetIn = s.resetIn := rfl
@[simp] theorem respond_reqValid (x : RspStatus) (f : Freq) (s : State) : (respond x f s).reqValid = s.reqValid := rfl
@[simp] theorem respond_reqOpIn (x : RspStatus) (f : Freq) (s : State) : (respond x f s).reqOpIn = s.reqOpIn := rfl
@[simp] theorem respond_reqFreqIn (x : RspStatus) (f : Freq) (s : State) : (respond x f s).reqFreqIn = s.reqFreqIn := rfl
@[simp] theorem respond_rspReady (x : RspStatus) (f : Freq) (s : State) : (respond x f s).rspReady = s.rspReady := rfl
@[simp] theorem respond_statusAnswers (x : RspStatus) (f : Freq) (s : State) : (respond x f s).statusAnswers = s.statusAnswers := rfl
@[simp] theorem respond_ctrlAnswers (x : RspStatus) (f : Freq) (s : State) : (respond x f s).ctrlAnswers = s.ctrlAnswers := rfl
@[simp] theorem respond_draws (x : RspStatus) (f : Freq) (s : State) : (respond x f s).draws = s.draws := rfl

/-! `raise` -/

@[simp] theorem raise_config (e : CommandError) (s : State) : (raise e s).config = s.config := rfl
@[simp] theorem raise_fsm (e : CommandError) (s : State) : (raise e s).fsm = .resp := rfl
@[simp] theorem raise_reqOp (e : CommandError) (s : State) : (raise e s).reqOp = s.reqOp := rfl
@[simp] theorem raise_reqFreq (e : CommandError) (s : State) : (raise e s).reqFreq = s.reqFreq := rfl
@[simp] theorem raise_cfg (e : CommandError) (s : State) : (raise e s).cfg = s.cfg := rfl
@[simp] theorem raise_rspStatus (e : CommandError) (s : State) : (raise e s).rspStatus = errorStatus e := rfl
@[simp] theorem raise_rspFreq (e : CommandError) (s : State) : (raise e s).rspFreq = 0 := rfl
@[simp] theorem raise_waitTimer (e : CommandError) (s : State) : (raise e s).waitTimer = s.waitTimer := rfl
@[simp] theorem raise_ctrl (e : CommandError) (s : State) : (raise e s).ctrl = s.ctrl := rfl
@[simp] theorem raise_aux (e : CommandError) (s : State) : (raise e s).aux = s.aux := rfl
@[simp] theorem raise_auxLast (e : CommandError) (s : State) : (raise e s).auxLast = s.auxLast := rfl
@[simp] theorem raise_history (e : CommandError) (s : State) : (raise e s).history = s.history := rfl
@[simp] theorem raise_resetIn (e : CommandError) (s : State) : (raise e s).resetIn = s.resetIn := rfl
@[simp] theorem raise_reqValid (e : CommandError) (s : State) : (raise e s).reqValid = s.reqValid := rfl
@[simp] theorem raise_reqOpIn (e : CommandError) (s : State) : (raise e s).reqOpIn = s.reqOpIn := rfl
@[simp] theorem raise_reqFreqIn (e : CommandError) (s : State) : (raise e s).reqFreqIn = s.reqFreqIn := rfl
@[simp] theorem raise_rspReady (e : CommandError) (s : State) : (raise e s).rspReady = s.rspReady := rfl
@[simp] theorem raise_statusAnswers (e : CommandError) (s : State) : (raise e s).statusAnswers = s.statusAnswers := rfl
@[simp] theorem raise_ctrlAnswers (e : CommandError) (s : State) : (raise e s).ctrlAnswers = s.ctrlAnswers := rfl
@[simp] theorem raise_draws (e : CommandError) (s : State) : (raise e s).draws = s.draws := rfl

/-! `writeCtrl` -/

@[simp] theorem writeCtrl_config (v : Word) (s : State) : (writeCtrl v s).config = s.config := rfl
@[simp] theorem writeCtrl_fsm (v : Word) (s : State) : (writeCtrl v s).fsm = s.fsm := rfl
@[simp] theorem writeCtrl_reqOp (v : Word) (s : State) : (writeCtrl v s).reqOp = s.reqOp := rfl
@[simp] theorem writeCtrl_reqFreq (v : Word) (s : State) : (writeCtrl v s).reqFreq = s.reqFreq := rfl
@[simp] theorem writeCtrl_cfg (v : Word) (s : State) : (writeCtrl v s).cfg = s.cfg := rfl
@[simp] theorem writeCtrl_rspStatus (v : Word) (s : State) : (writeCtrl v s).rspStatus = s.rspStatus := rfl
@[simp] theorem writeCtrl_rspFreq (v : Word) (s : State) : (writeCtrl v s).rspFreq = s.rspFreq := rfl
@[simp] theorem writeCtrl_waitTimer (v : Word) (s : State) : (writeCtrl v s).waitTimer = s.waitTimer := rfl
@[simp] theorem writeCtrl_ctrl (v : Word) (s : State) : (writeCtrl v s).ctrl = v := rfl
@[simp] theorem writeCtrl_aux (v : Word) (s : State) : (writeCtrl v s).aux = s.aux := rfl
@[simp] theorem writeCtrl_auxLast (v : Word) (s : State) : (writeCtrl v s).auxLast = s.auxLast := rfl
@[simp] theorem writeCtrl_history (v : Word) (s : State) : (writeCtrl v s).history = s.history ++ [.write (ctrlAddr s.config) v] := rfl
@[simp] theorem writeCtrl_resetIn (v : Word) (s : State) : (writeCtrl v s).resetIn = s.resetIn := rfl
@[simp] theorem writeCtrl_reqValid (v : Word) (s : State) : (writeCtrl v s).reqValid = s.reqValid := rfl
@[simp] theorem writeCtrl_reqOpIn (v : Word) (s : State) : (writeCtrl v s).reqOpIn = s.reqOpIn := rfl
@[simp] theorem writeCtrl_reqFreqIn (v : Word) (s : State) : (writeCtrl v s).reqFreqIn = s.reqFreqIn := rfl
@[simp] theorem writeCtrl_rspReady (v : Word) (s : State) : (writeCtrl v s).rspReady = s.rspReady := rfl
@[simp] theorem writeCtrl_statusAnswers (v : Word) (s : State) : (writeCtrl v s).statusAnswers = s.statusAnswers := rfl
@[simp] theorem writeCtrl_ctrlAnswers (v : Word) (s : State) : (writeCtrl v s).ctrlAnswers = s.ctrlAnswers := rfl
@[simp] theorem writeCtrl_draws (v : Word) (s : State) : (writeCtrl v s).draws = s.draws := rfl

/-! `writeAux` -/

@[simp] theorem writeAux_config (a : Nat) (v : Word) (s : State) : (writeAux a v s).config = s.config := rfl
@[simp] theorem writeAux_fsm (a : Nat) (v : Word) (s : State) : (writeAux a v s).fsm = s.fsm := rfl
@[simp] theorem writeAux_reqOp (a : Nat) (v : Word) (s : State) : (writeAux a v s).reqOp = s.reqOp := rfl
@[simp] theorem writeAux_reqFreq (a : Nat) (v : Word) (s : State) : (writeAux a v s).reqFreq = s.reqFreq := rfl
@[simp] theorem writeAux_cfg (a : Nat) (v : Word) (s : State) : (writeAux a v s).cfg = s.cfg := rfl
@[simp] theorem writeAux_rspStatus (a : Nat) (v : Word) (s : State) : (writeAux a v s).rspStatus = s.rspStatus := rfl
@[simp] theorem writeAux_rspFreq (a : Nat) (v : Word) (s : State) : (writeAux a v s).rspFreq = s.rspFreq := rfl
@[simp] theorem writeAux_waitTimer (a : Nat) (v : Word) (s : State) : (writeAux a v s).waitTimer = s.waitTimer := rfl
@[simp] theorem writeAux_ctrl (a : Nat) (v : Word) (s : State) : (writeAux a v s).ctrl = s.ctrl := rfl
@[simp] theorem writeAux_aux (a : Nat) (v : Word) (s : State) : (writeAux a v s).aux = v := rfl
@[simp] theorem writeAux_auxLast (a : Nat) (v : Word) (s : State) : (writeAux a v s).auxLast = some v := rfl
@[simp] theorem writeAux_history (a : Nat) (v : Word) (s : State) : (writeAux a v s).history = s.history ++ [.write a v] := rfl
@[simp] theorem writeAux_resetIn (a : Nat) (v : Word) (s : State) : (writeAux a v s).resetIn = s.resetIn := rfl
@[simp] theorem writeAux_reqValid (a : Nat) (v : Word) (s : State) : (writeAux a v s).reqValid = s.reqValid := rfl
@[simp] theorem writeAux_reqOpIn (a : Nat) (v : Word) (s : State) : (writeAux a v s).reqOpIn = s.reqOpIn := rfl
@[simp] theorem writeAux_reqFreqIn (a : Nat) (v : Word) (s : State) : (writeAux a v s).reqFreqIn = s.reqFreqIn := rfl
@[simp] theorem writeAux_rspReady (a : Nat) (v : Word) (s : State) : (writeAux a v s).rspReady = s.rspReady := rfl
@[simp] theorem writeAux_statusAnswers (a : Nat) (v : Word) (s : State) : (writeAux a v s).statusAnswers = s.statusAnswers := rfl
@[simp] theorem writeAux_ctrlAnswers (a : Nat) (v : Word) (s : State) : (writeAux a v s).ctrlAnswers = s.ctrlAnswers := rfl
@[simp] theorem writeAux_draws (a : Nat) (v : Word) (s : State) : (writeAux a v s).draws = s.draws := rfl

/-! `underReset` -/

@[simp] theorem underReset_config (s : State) : (underReset s).config = s.config := rfl
@[simp] theorem underReset_fsm (s : State) : (underReset s).fsm = .idle := rfl
@[simp] theorem underReset_reqOp (s : State) : (underReset s).reqOp = .getRate := rfl
@[simp] theorem underReset_reqFreq (s : State) : (underReset s).reqFreq = 0 := rfl
@[simp] theorem underReset_cfg (s : State) : (underReset s).cfg = ⟨0, 0, 0, 0, 0⟩ := rfl
@[simp] theorem underReset_rspStatus (s : State) : (underReset s).rspStatus = .ok := rfl
@[simp] theorem underReset_rspFreq (s : State) : (underReset s).rspFreq = 0 := rfl
@[simp] theorem underReset_waitTimer (s : State) : (underReset s).waitTimer = 0 := rfl
@[simp] theorem underReset_ctrl (s : State) : (underReset s).ctrl = s.ctrl := rfl
@[simp] theorem underReset_aux (s : State) : (underReset s).aux = s.aux := rfl
@[simp] theorem underReset_auxLast (s : State) : (underReset s).auxLast = none := rfl
@[simp] theorem underReset_history (s : State) : (underReset s).history = [] := rfl
@[simp] theorem underReset_resetIn (s : State) : (underReset s).resetIn = s.resetIn := rfl
@[simp] theorem underReset_reqValid (s : State) : (underReset s).reqValid = s.reqValid := rfl
@[simp] theorem underReset_reqOpIn (s : State) : (underReset s).reqOpIn = s.reqOpIn := rfl
@[simp] theorem underReset_reqFreqIn (s : State) : (underReset s).reqFreqIn = s.reqFreqIn := rfl
@[simp] theorem underReset_rspReady (s : State) : (underReset s).rspReady = s.rspReady := rfl
@[simp] theorem underReset_statusAnswers (s : State) : (underReset s).statusAnswers = s.statusAnswers := rfl
@[simp] theorem underReset_ctrlAnswers (s : State) : (underReset s).ctrlAnswers = s.ctrlAnswers := rfl
@[simp] theorem underReset_draws (s : State) : (underReset s).draws = s.draws := rfl

/-! `takeStatusAnswer` -/

@[simp] theorem takeStatusAnswer_config (s : State) : (takeStatusAnswer s).config = s.config := by unfold takeStatusAnswer; split <;> rfl
@[simp] theorem takeStatusAnswer_fsm (s : State) : (takeStatusAnswer s).fsm = s.fsm := by unfold takeStatusAnswer; split <;> rfl
@[simp] theorem takeStatusAnswer_reqOp (s : State) : (takeStatusAnswer s).reqOp = s.reqOp := by unfold takeStatusAnswer; split <;> rfl
@[simp] theorem takeStatusAnswer_reqFreq (s : State) : (takeStatusAnswer s).reqFreq = s.reqFreq := by unfold takeStatusAnswer; split <;> rfl
@[simp] theorem takeStatusAnswer_cfg (s : State) : (takeStatusAnswer s).cfg = s.cfg := by unfold takeStatusAnswer; split <;> rfl
@[simp] theorem takeStatusAnswer_rspStatus (s : State) : (takeStatusAnswer s).rspStatus = s.rspStatus := by unfold takeStatusAnswer; split <;> rfl
@[simp] theorem takeStatusAnswer_rspFreq (s : State) : (takeStatusAnswer s).rspFreq = s.rspFreq := by unfold takeStatusAnswer; split <;> rfl
@[simp] theorem takeStatusAnswer_waitTimer (s : State) : (takeStatusAnswer s).waitTimer = s.waitTimer := by unfold takeStatusAnswer; split <;> rfl
@[simp] theorem takeStatusAnswer_ctrl (s : State) : (takeStatusAnswer s).ctrl = s.ctrl := by unfold takeStatusAnswer; split <;> rfl
@[simp] theorem takeStatusAnswer_aux (s : State) : (takeStatusAnswer s).aux = s.aux := by unfold takeStatusAnswer; split <;> rfl
@[simp] theorem takeStatusAnswer_auxLast (s : State) : (takeStatusAnswer s).auxLast = s.auxLast := by unfold takeStatusAnswer; split <;> rfl
@[simp] theorem takeStatusAnswer_history (s : State) : (takeStatusAnswer s).history = s.history := by unfold takeStatusAnswer; split <;> rfl
@[simp] theorem takeStatusAnswer_resetIn (s : State) : (takeStatusAnswer s).resetIn = s.resetIn := by unfold takeStatusAnswer; split <;> rfl
@[simp] theorem takeStatusAnswer_reqValid (s : State) : (takeStatusAnswer s).reqValid = s.reqValid := by unfold takeStatusAnswer; split <;> rfl
@[simp] theorem takeStatusAnswer_reqOpIn (s : State) : (takeStatusAnswer s).reqOpIn = s.reqOpIn := by unfold takeStatusAnswer; split <;> rfl
@[simp] theorem takeStatusAnswer_reqFreqIn (s : State) : (takeStatusAnswer s).reqFreqIn = s.reqFreqIn := by unfold takeStatusAnswer; split <;> rfl
@[simp] theorem takeStatusAnswer_rspReady (s : State) : (takeStatusAnswer s).rspReady = s.rspReady := by unfold takeStatusAnswer; split <;> rfl
@[simp] theorem takeStatusAnswer_ctrlAnswers (s : State) : (takeStatusAnswer s).ctrlAnswers = s.ctrlAnswers := by unfold takeStatusAnswer; split <;> rfl

/-! `takeCtrlAnswer` -/

@[simp] theorem takeCtrlAnswer_config (s : State) : (takeCtrlAnswer s).config = s.config := by
  unfold takeCtrlAnswer; repeat (first | rfl | split)
@[simp] theorem takeCtrlAnswer_fsm (s : State) : (takeCtrlAnswer s).fsm = s.fsm := by
  unfold takeCtrlAnswer; repeat (first | rfl | split)
@[simp] theorem takeCtrlAnswer_reqOp (s : State) : (takeCtrlAnswer s).reqOp = s.reqOp := by
  unfold takeCtrlAnswer; repeat (first | rfl | split)
@[simp] theorem takeCtrlAnswer_reqFreq (s : State) : (takeCtrlAnswer s).reqFreq = s.reqFreq := by
  unfold takeCtrlAnswer; repeat (first | rfl | split)
@[simp] theorem takeCtrlAnswer_cfg (s : State) : (takeCtrlAnswer s).cfg = s.cfg := by
  unfold takeCtrlAnswer; repeat (first | rfl | split)
@[simp] theorem takeCtrlAnswer_rspStatus (s : State) : (takeCtrlAnswer s).rspStatus = s.rspStatus := by
  unfold takeCtrlAnswer; repeat (first | rfl | split)
@[simp] theorem takeCtrlAnswer_rspFreq (s : State) : (takeCtrlAnswer s).rspFreq = s.rspFreq := by
  unfold takeCtrlAnswer; repeat (first | rfl | split)
@[simp] theorem takeCtrlAnswer_waitTimer (s : State) : (takeCtrlAnswer s).waitTimer = s.waitTimer := by
  unfold takeCtrlAnswer; repeat (first | rfl | split)
@[simp] theorem takeCtrlAnswer_ctrl (s : State) : (takeCtrlAnswer s).ctrl = s.ctrl := by
  unfold takeCtrlAnswer; repeat (first | rfl | split)
@[simp] theorem takeCtrlAnswer_aux (s : State) : (takeCtrlAnswer s).aux = s.aux := by
  unfold takeCtrlAnswer; repeat (first | rfl | split)
@[simp] theorem takeCtrlAnswer_auxLast (s : State) : (takeCtrlAnswer s).auxLast = s.auxLast := by
  unfold takeCtrlAnswer; repeat (first | rfl | split)
@[simp] theorem takeCtrlAnswer_history (s : State) : (takeCtrlAnswer s).history = s.history := by
  unfold takeCtrlAnswer; repeat (first | rfl | split)
@[simp] theorem takeCtrlAnswer_resetIn (s : State) : (takeCtrlAnswer s).resetIn = s.resetIn := by
  unfold takeCtrlAnswer; repeat (first | rfl | split)
@[simp] theorem takeCtrlAnswer_reqValid (s : State) : (takeCtrlAnswer s).reqValid = s.reqValid := by
  unfold takeCtrlAnswer; repeat (first | rfl | split)
@[simp] theorem takeCtrlAnswer_reqOpIn (s : State) : (takeCtrlAnswer s).reqOpIn = s.reqOpIn := by
  unfold takeCtrlAnswer; repeat (first | rfl | split)
@[simp] theorem takeCtrlAnswer_reqFreqIn (s : State) : (takeCtrlAnswer s).reqFreqIn = s.reqFreqIn := by
  unfold takeCtrlAnswer; repeat (first | rfl | split)
@[simp] theorem takeCtrlAnswer_rspReady (s : State) : (takeCtrlAnswer s).rspReady = s.rspReady := by
  unfold takeCtrlAnswer; repeat (first | rfl | split)
@[simp] theorem takeCtrlAnswer_statusAnswers (s : State) : (takeCtrlAnswer s).statusAnswers = s.statusAnswers := by
  unfold takeCtrlAnswer; repeat (first | rfl | split)

/-! `consumeResponse` -/

@[simp] theorem consumeResponse_config (s : State) : (consumeResponse s).config = s.config := by
  unfold consumeResponse; split <;> rfl
@[simp] theorem consumeResponse_reqOp (s : State) : (consumeResponse s).reqOp = s.reqOp := by
  unfold consumeResponse; split <;> rfl
@[simp] theorem consumeResponse_reqFreq (s : State) : (consumeResponse s).reqFreq = s.reqFreq := by
  unfold consumeResponse; split <;> rfl
@[simp] theorem consumeResponse_cfg (s : State) : (consumeResponse s).cfg = s.cfg := by
  unfold consumeResponse; split <;> rfl
@[simp] theorem consumeResponse_rspStatus (s : State) : (consumeResponse s).rspStatus = s.rspStatus := by
  unfold consumeResponse; split <;> rfl
@[simp] theorem consumeResponse_rspFreq (s : State) : (consumeResponse s).rspFreq = s.rspFreq := by
  unfold consumeResponse; split <;> rfl
@[simp] theorem consumeResponse_waitTimer (s : State) : (consumeResponse s).waitTimer = s.waitTimer := by
  unfold consumeResponse; split <;> rfl
@[simp] theorem consumeResponse_ctrl (s : State) : (consumeResponse s).ctrl = s.ctrl := by
  unfold consumeResponse; split <;> rfl
@[simp] theorem consumeResponse_aux (s : State) : (consumeResponse s).aux = s.aux := by
  unfold consumeResponse; split <;> rfl
@[simp] theorem consumeResponse_auxLast (s : State) : (consumeResponse s).auxLast = s.auxLast := by
  unfold consumeResponse; split <;> rfl
@[simp] theorem consumeResponse_history (s : State) : (consumeResponse s).history = s.history := by
  unfold consumeResponse; split <;> rfl
@[simp] theorem consumeResponse_resetIn (s : State) : (consumeResponse s).resetIn = s.resetIn := by
  unfold consumeResponse; split <;> rfl
@[simp] theorem consumeResponse_reqValid (s : State) : (consumeResponse s).reqValid = s.reqValid := by
  unfold consumeResponse; split <;> rfl
@[simp] theorem consumeResponse_reqOpIn (s : State) : (consumeResponse s).reqOpIn = s.reqOpIn := by
  unfold consumeResponse; split <;> rfl
@[simp] theorem consumeResponse_reqFreqIn (s : State) : (consumeResponse s).reqFreqIn = s.reqFreqIn := by
  unfold consumeResponse; split <;> rfl
@[simp] theorem consumeResponse_rspReady (s : State) : (consumeResponse s).rspReady = s.rspReady := by
  unfold consumeResponse; split <;> rfl
@[simp] theorem consumeResponse_statusAnswers (s : State) : (consumeResponse s).statusAnswers = s.statusAnswers := by
  unfold consumeResponse; split <;> rfl
@[simp] theorem consumeResponse_ctrlAnswers (s : State) : (consumeResponse s).ctrlAnswers = s.ctrlAnswers := by
  unfold consumeResponse; split <;> rfl
@[simp] theorem consumeResponse_draws (s : State) : (consumeResponse s).draws = s.draws := by
  unfold consumeResponse; split <;> rfl

end Sys2Proof.Machine
end

