-- ==== Sys2Proof/Laws/Ops.lean ====
section
/-!
SUPPORT. What each shared operation over the bus, the flags and the responses does, said once.
-/

namespace Sys2Proof.Machine

@[simp] theorem ctrlAddr_eq (c : Config) : ctrlAddr c = c.mainBase := rfl

@[simp] theorem statusAddr_eq (c : Config) : statusAddr c = c.mainBase + 4 := rfl

@[simp] theorem auxAddr_eq (c : Config) : auxAddr c = c.auxBase := by
  unfold auxAddr; cases c.auxBase <;> rfl

@[simp] theorem isCoreClock_iff (c : Config) : isCoreClock c = true ↔ c.variant = .coreClock := by
  unfold isCoreClock; cases c.variant <;> simp

@[simp] theorem isCoreClock_false_iff (c : Config) : isCoreClock c = false ↔ c.variant ≠ .coreClock := by
  unfold isCoreClock; cases c.variant <;> simp

theorem aboveThreshold_iff (c : Config) (f : Freq) : aboveThreshold c f = true ↔ c.thresholdHz.toNat < f.toNat := by
  simp [aboveThreshold]

theorem needsPre_iff (s : State) : needsPre s = true ↔
    s.config.variant = .coreClock ∧ s.config.thresholdHz.toNat < s.reqFreq.toNat := by
  simp [needsPre, aboveThreshold]

theorem needsPost_iff (s : State) : needsPost s = true ↔
    s.config.variant = .coreClock ∧ s.reqFreq.toNat ≤ s.config.thresholdHz.toNat := by
  simp [needsPost, aboveThreshold]

theorem readStatus_fst (s : State) : (memRead .status s).1 = statusAnswer s := rfl

theorem readStatus_snd (s : State) :
    (memRead .status s).2 = record (.read (statusAddr s.config) (statusAnswer s)) (takeStatusAnswer s) := rfl

theorem readCtrl_fst (s : State) : (memRead .ctrl s).1 = ctrlAnswer s := rfl

theorem readCtrl_snd (s : State) :
    (memRead .ctrl s).2 = record (.read (ctrlAddr s.config) (ctrlAnswer s)) (takeCtrlAnswer s) := rfl

theorem takeCtrlAnswer_storage {s : State} (h : s.config.ctrlReadback = .storage) : takeCtrlAnswer s = s := by
  simp [takeCtrlAnswer, h]

theorem ctrlAnswer_storage {s : State} (h : s.config.ctrlReadback = .storage) : ctrlAnswer s = s.ctrl := by
  simp [ctrlAnswer, h]

/-- The return from a response: to IDLE where the requester is ready, else nothing. -/
theorem consumeResponse_cases (s : State) :
    (s.rspReady = true ∧ consumeResponse s = goto .idle s) ∨ (s.rspReady = false ∧ consumeResponse s = s) := by
  cases h : s.rspReady <;> simp [consumeResponse, h]

/-- The check of a status word: what each outcome says of its two bits. -/
theorem statusError_cases (w : Word) :
    (lockBit w = false ∧ statusError w = some .lockTimeout) ∨
      (lockBit w = true ∧ errBit w = true ∧ statusError w = some .hardwareError) ∨
      (lockBit w = true ∧ errBit w = false ∧ statusError w = none) := by
  cases h : lockBit w <;> cases h' : errBit w <;> simp [statusError, h, h']

/-- CHECK says one of three things: an error raised, POST next, or the response. -/
theorem checkStep_cases (s : State) :
    (∃ e, statusError (statusAnswer s) = some e ∧ checkStep s = raise e (memRead .status s).2) ∨
      (statusError (statusAnswer s) = none ∧ needsPost (memRead .status s).2 = true ∧
        checkStep s = goto .post (memRead .status s).2) ∨
      (statusError (statusAnswer s) = none ∧ needsPost (memRead .status s).2 = false ∧
        checkStep s = respond .ok s.cfg.target (memRead .status s).2) := by
  have hp : needsPost (memRead .status s).2 = needsPost s := by simp [needsPost, memRead, readStatus]
  unfold checkStep
  rw [hp]
  cases h : statusError (statusAnswer s) with
  | some e => simp [memRead, readStatus, h]
  | none => cases needsPost s <;> simp [memRead, readStatus, h]

/-- GETRD answers with the decoded rate of the word read, and takes no more than the read's draw. -/
theorem getRead_eq (s : State) :
    getRead s = respond .ok (decodeControl (ctrlAnswer s) s.config.refHz)
      (record (.read (ctrlAddr s.config) (ctrlAnswer s)) (takeCtrlAnswer s)) := rfl

/-- WAIT ticks until its time has elapsed, then leaves. -/
theorem waitStep_cases (s : State) :
    (waitTicks s.config ≤ s.waitTimer ∧ waitStep s = goto .check (record .waitDone s)) ∨
      (s.waitTimer < waitTicks s.config ∧ waitStep s = tick s) := by
  by_cases h : waitTicks s.config ≤ s.waitTimer
  · exact .inl ⟨h, by simp [waitStep, waitElapsed, h]⟩
  · exact .inr ⟨by omega, by simp [waitStep, waitElapsed, h]⟩

/-- PRE and POST need an AUX address, which a constructed CoreClock instance has. -/
theorem preStep_eq {s : State} {a : Nat} (h : s.config.auxBase = some a) :
    preStep s = .next (goto .program (writeAux a s.config.auxDiv2Code s)) := by
  simp [preStep, h]

theorem postStep_eq {s : State} {a : Nat} (h : s.config.auxBase = some a) :
    postStep s = .next (respond .ok s.cfg.target (writeAux a s.config.auxDiv1Code s)) := by
  simp [postStep, h]

end Sys2Proof.Machine
end

