-- ==== Sys2Proof/Laws/Construction.lean ====
section
/-!
SUPPORT. What construction's checks say, once: each check of a built configuration, and when construction succeeds.
-/

namespace Sys2Proof.Machine

/-- A built configuration passes each check of its own, and no other does (R115). -/
theorem constructionFailure_none_iff (c : Config) : constructionFailure c = none ↔
    auxPresent c = true ∧ basesAligned c = true ∧ addressesFit c = true ∧ distinctTargets c.table = true ∧
      c.auxDiv1Code ≠ c.auxDiv2Code ∧ regionsDisjoint c = true := by
  constructor
  · intro h
    unfold constructionFailure at h
    repeat' split at h
    all_goals simp_all
  · rintro ⟨h1, h2, h3, h4, h5, h6⟩
    simp [constructionFailure, h1, h2, h3, h4, h5, h6]

theorem instanceExists_iff (c : Config) : instanceExists c = true ↔ constructionFailure c = none := by
  simp [instanceExists]

theorem instanceExists_parts {c : Config} (h : instanceExists c = true) :
    auxPresent c = true ∧ basesAligned c = true ∧ addressesFit c = true ∧ distinctTargets c.table = true ∧
      c.auxDiv1Code ≠ c.auxDiv2Code ∧ regionsDisjoint c = true :=
  (constructionFailure_none_iff c).1 ((instanceExists_iff c).1 h)

/-- Two regions do not overlap when one ends before the other begins (R44). -/
theorem regionsOverlap_false_iff (a b : Region) : regionsOverlap a b = false ↔
    b.base + b.size ≤ a.base ∨ a.base + a.size ≤ b.base := by
  by_cases h : a.base < b.base + b.size <;> by_cases h' : b.base < a.base + a.size <;>
    simp [regionsOverlap, h, h'] <;> omega

/-- A built CoreClock instance has an `AUX_BASE` (R115 item 1). -/
theorem auxBase_of_coreClock {c : Config} (h : instanceExists c = true) (hv : c.variant = .coreClock) :
    ∃ b, c.auxBase = some b := by
  have hp := (instanceExists_parts h).1
  have hc := (isCoreClock_iff c).2 hv
  simp only [auxPresent, hc, Bool.not_true, Bool.false_or] at hp
  exact Option.isSome_iff_exists.1 hp

/-- The two register regions of a built instance share no address (R44). -/
theorem mainRegion_auxRegion_disjoint {c : Config} {b : Nat} (h : instanceExists c = true) (hb : c.auxBase = some b) :
    c.mainBase + 16 ≤ b ∨ b + 4 ≤ c.mainBase := by
  have hd := (instanceExists_parts h).2.2.2.2.2
  simp only [regionsDisjoint, auxRegions, hb, Bool.and_eq_true] at hd
  have h1 : regionsOverlap (mainRegion c.mainBase) ⟨b, 4⟩ = false := by simpa using hd.1
  rcases (regionsOverlap_false_iff _ _).1 h1 with h2 | h2
  · exact .inr h2
  · exact .inl h2

/-- Construction succeeds exactly with a base, a table and a reference that fit, and a built configuration that passes
the remaining checks. -/
theorem construct_ok_iff (tables : RateTables) (others : List Region) (i : ConstructionInputs) (c : Config) :
    construct tables others i = .ok c ↔
    ∃ mb t, i.mainBase = some mb ∧ tableOfRaw (selectedTable tables i.variant) = some t ∧ i.refHz < 2 ^ 56 ∧
      c = builtConfig others i mb t ∧ instanceExists c = true := by
  have hk : ∀ d, checkedConfig d = .ok c ↔ c = d ∧ instanceExists c = true := by
    intro d
    unfold checkedConfig
    cases h : constructionFailure d with
    | some e => simp [instanceExists]; rintro rfl; simp [h]
    | none => simp [instanceExists]; constructor
              · rintro rfl; simp [h]
              · rintro ⟨rfl, -⟩; rfl
  unfold construct
  cases hm : i.mainBase <;> cases ht : tableOfRaw (selectedTable tables i.variant) <;> simp
  split <;> simp_all

/-- What construction beside other regions adds to construction alone: no region of the instance overlaps them (R44). -/
theorem construct_beside_iff (tables : RateTables) (others : List Region) (i : ConstructionInputs) :
    (∃ c, construct tables others i = .ok c) ↔
      ∃ c, construct tables [] i = .ok c ∧ ∀ r ∈ instanceRegions c, ∀ o ∈ others, regionsOverlap r o = false := by
  have hb : ∀ mb t, instanceExists (builtConfig others i mb t) = true ↔
      instanceExists (builtConfig [] i mb t) = true ∧
        ∀ r ∈ instanceRegions (builtConfig [] i mb t), ∀ o ∈ others, regionsOverlap r o = false := by
    intro mb t
    simp only [instanceExists_iff, constructionFailure_none_iff, regionsDisjoint, Bool.and_eq_true, List.all_eq_true,
      Bool.not_eq_true']
    constructor
    · rintro ⟨h1, h2, h3, h4, h5, h6, h7⟩
      exact ⟨⟨h1, h2, h3, h4, h5, h6, by simp [builtConfig]⟩, h7⟩
    · rintro ⟨⟨h1, h2, h3, h4, h5, h6, -⟩, h7⟩
      exact ⟨h1, h2, h3, h4, h5, h6, h7⟩
  simp only [construct_ok_iff]
  constructor
  · rintro ⟨c, mb, t, hm, ht, hr, rfl, hc⟩
    exact ⟨_, ⟨mb, t, hm, ht, hr, rfl, ((hb mb t).1 hc).1⟩, ((hb mb t).1 hc).2⟩
  · rintro ⟨c, ⟨mb, t, hm, ht, hr, rfl, hc⟩, ho⟩
    exact ⟨_, mb, t, hm, ht, hr, rfl, (hb mb t).2 ⟨hc, ho⟩⟩

/-- The regions and the table of an instance do not depend on the instances beside it. -/
theorem construct_beside_same {tables : RateTables} {others others' : List Region} {i : ConstructionInputs}
    {c d : Config} (hc : construct tables others i = .ok c) (hd : construct tables others' i = .ok d) :
    instanceRegions c = instanceRegions d ∧ c.table = d.table ∧ c.variant = d.variant := by
  obtain ⟨mb, t, hm, ht, -, rfl, -⟩ := (construct_ok_iff _ _ _ _).1 hc
  obtain ⟨mb', t', hm', ht', -, rfl, -⟩ := (construct_ok_iff _ _ _ _).1 hd
  cases hm.symm.trans hm'
  cases ht.symm.trans ht'
  exact ⟨rfl, rfl, rfl⟩

end Sys2Proof.Machine
end

