-- ==== Sys2Proof/Laws/Decode.lean ====
section
/-!
SUPPORT. A command word as a number, its two fields, and the word of two fields.
-/

namespace Sys2Proof

theorem commandWord_toNat (op : BitVec 2) (f : Freq) : (commandWord op f).toNat = f.toNat * 4 + op.toNat := by
  have h : (f ++ op).toNat = f.toNat <<< 2 ||| op.toNat := BitVec.toNat_append f op
  have h' := (Nat.shiftLeft_add_eq_or_of_lt op.isLt f.toNat).symm
  rw [Nat.shiftLeft_eq] at h'
  rw [Nat.shiftLeft_eq] at h
  exact h.trans h'

theorem opField_toNat (w : CommandWord) : (opField w).toNat = w.toNat % 4 := by
  simp [opField, BitVec.extractLsb'_toNat]

theorem freqField_toNat (w : CommandWord) : (freqField w).toNat = w.toNat / 4 := by
  have := w.isLt
  simp only [freqField, BitVec.extractLsb'_toNat, Nat.shiftRight_eq_div_pow]
  omega

@[simp] theorem opField_commandWord (op : BitVec 2) (f : Freq) : opField (commandWord op f) = op := by
  have := op.isLt
  apply BitVec.eq_of_toNat_eq
  rw [opField_toNat, commandWord_toNat]; omega

@[simp] theorem freqField_commandWord (op : BitVec 2) (f : Freq) : freqField (commandWord op f) = f := by
  have := op.isLt
  apply BitVec.eq_of_toNat_eq
  rw [freqField_toNat, commandWord_toNat]; omega

theorem commandWord_fields (w : CommandWord) : commandWord (opField w) (freqField w) = w := by
  apply BitVec.eq_of_toNat_eq
  rw [commandWord_toNat, opField_toNat, freqField_toNat]; omega

end Sys2Proof
end

