-- ==== Sys2Proof/Laws/PerInstr.lean ====
section
/-!
SUPPORT. Statements for all commands, one lemma per constructor: the code field of a command's word, and its operand's
range.
-/

namespace Sys2Proof.Laws.CodeField

/-- Bits 1:0 of a command's word are its code (R63), which is never the reserved one (R65). -/
def Statement (i : Instr) : Prop := opField (encode i) = i.op.code ∧ i.op.code ≠ 3

theorem getRate (operand : Freq) : Statement (.getRate operand) :=
  ⟨by simp [encode], by simp [Instr.op, Op.code]⟩

theorem setRate (freq : Freq) : Statement (.setRate freq) :=
  ⟨by simp [encode], by simp [Instr.op, Op.code]⟩

theorem roundRate (freq : Freq) : Statement (.roundRate freq) :=
  ⟨by simp [encode], by simp [Instr.op, Op.code]⟩

end Sys2Proof.Laws.CodeField

namespace Sys2Proof.Laws.OperandFits

/-- A command's operand is below 2^64 and its code is defined, so it is well formed (R63, R67). -/
def Statement (i : Instr) : Prop := i.wellFormed = true

theorem getRate (operand : Freq) : Statement (.getRate operand) := by
  simp [Statement, Instr.wellFormed, Instr.toRequest, Request.wellFormed, Request.codeDefined, Request.freqFits,
    operand.isLt]

theorem setRate (freq : Freq) : Statement (.setRate freq) := by
  simp [Statement, Instr.wellFormed, Instr.toRequest, Request.wellFormed, Request.codeDefined, Request.freqFits,
    freq.isLt]

theorem roundRate (freq : Freq) : Statement (.roundRate freq) := by
  simp [Statement, Instr.wellFormed, Instr.toRequest, Request.wellFormed, Request.codeDefined, Request.freqFits,
    freq.isLt]

end Sys2Proof.Laws.OperandFits
end

