-- ==== Sys2Proof/Laws/Step.lean ====
section
/-!
SUPPORT. Inversion: what a command's meaning and a step can do when they answer a next state, said once.
-/

namespace Sys2Proof.Machine

theorem execGetRate_cases {x : Freq} {s t : State} (h : execGetRate x s = .next t) :
    (s.fsm = .idle ∧ t = acceptRequest .getRate x .getrd s) ∨
      (s.fsm = .getrd ∧ t = getRead s) ∨
      (s.fsm = .resp ∧ t = consumeResponse s) := by
  unfold execGetRate at h
  cases hf : s.fsm <;> rw [hf] at h <;> simp at h <;> simp [h]

theorem execRoundRate_cases {f : Freq} {s t : State} (h : execRoundRate f s = .next t) :
    (s.fsm = .idle ∧ t = acceptRequest .roundRate f .matching s) ∨
      (s.fsm = .matching ∧ t = matchForRound s) ∨
      (s.fsm = .resp ∧ t = consumeResponse s) := by
  unfold execRoundRate at h
  cases hf : s.fsm <;> rw [hf] at h <;> simp at h <;> simp [h]

theorem preStep_cases {s t : State} (h : preStep s = .next t) :
    ∃ a, s.config.auxBase = some a ∧ t = goto .program (writeAux a s.config.auxDiv2Code s) := by
  cases ha : s.config.auxBase with
  | none => simp [preStep, ha] at h
  | some a => rw [preStep_eq ha] at h; exact ⟨a, rfl, by simpa using h.symm⟩

theorem postStep_cases {s t : State} (h : postStep s = .next t) :
    ∃ a, s.config.auxBase = some a ∧ t = respond .ok s.cfg.target (writeAux a s.config.auxDiv1Code s) := by
  cases ha : s.config.auxBase with
  | none => simp [postStep, ha] at h
  | some a => rw [postStep_eq ha] at h; exact ⟨a, rfl, by simpa using h.symm⟩

theorem execSetRate_cases {f : Freq} {s t : State} (h : execSetRate f s = .next t) :
    (s.fsm = .idle ∧ t = acceptRequest .setRate f .matching s) ∨
      (s.fsm = .matching ∧ t = matchForSet s) ∨
      (s.fsm = .pre ∧ ∃ a, s.config.auxBase = some a ∧ t = goto .program (writeAux a s.config.auxDiv2Code s)) ∨
      (s.fsm = .program ∧ t = programStep s) ∨
      (s.fsm = .wait ∧ t = waitStep s) ∨
      (s.fsm = .check ∧ t = checkStep s) ∨
      (s.fsm = .post ∧ ∃ a, s.config.auxBase = some a ∧
        t = respond .ok s.cfg.target (writeAux a s.config.auxDiv1Code s)) ∨
      (s.fsm = .resp ∧ t = consumeResponse s) := by
  unfold execSetRate at h
  cases hf : s.fsm <;> rw [hf] at h
  case pre => simpa using preStep_cases h
  case post => simpa using postStep_cases h
  all_goals simp at h
  all_goals simp [h]

/-- A step that answers a next state is a reset, a stay in IDLE, or one command's transition. -/
theorem step_cases {s t : State} (h : step s = .next t) :
    instanceExists s.config = true ∧
      ((s.resetIn = true ∧ t = underReset s) ∨
        (s.resetIn = false ∧ nextWork s = .nothing ∧ t = s) ∨
        (s.resetIn = false ∧ ∃ i, nextWork s = .command i ∧ exec i s = .next t)) := by
  unfold step at h
  cases hb : instanceExists s.config <;> simp only [hb] at h
  · simp at h
  · refine ⟨rfl, ?_⟩
    cases hr : s.resetIn <;> simp only [hr] at h
    · cases hw : nextWork s <;> simp [hw] at h <;> simp [h]
    · simp at h; simp [h]

/-- The one transition a built, unreset instance makes when its work is command `i`. -/
theorem step_of_command {s : State} {i : Instr} (hb : instanceExists s.config = true) (hr : s.resetIn = false)
    (hw : nextWork s = .command i) : step s = exec i s := by
  simp [step, hb, hr, hw]

/-- In IDLE with a decodable request the work is that command. -/
theorem nextWork_presented {s : State} {i : Instr} (hi : s.fsm = .idle) (hv : s.reqValid = true)
    (hd : decode (commandWord s.reqOpIn s.reqFreqIn) = .ok i) : nextWork s = .command i := by
  simp [nextWork, presentedRequest, hi, hv, hd]

/-- Outside IDLE the work is the command in the request latch. -/
theorem nextWork_inProgress {s : State} (hi : s.fsm ≠ .idle) : nextWork s = .command (latchedCommand s) := by
  simp [nextWork, hi]

end Sys2Proof.Machine
end

