-- ==== Sys2Proof/Laws/Run.lean ====
section
/-!
SUPPORT. Runs: one step more, two runs in a row, the host's run, and the step of a presented or latched command.
-/

namespace Sys2Proof.Machine

@[simp] theorem run_zero (s : State) : run 0 s = .next s := rfl

theorem run_succ {s t : State} (k : Nat) (h : step s = .next t) : run (k + 1) s = run k t := by
  simp [run, h]

theorem run_one {s t : State} (h : step s = .next t) : run 1 s = .next t := run_succ 0 h

theorem run_add {j : Nat} (k : Nat) : ∀ {s t : State}, run j s = .next t → run (j + k) s = run k t := by
  induction j with
  | zero => intro s t h; cases h; rw [Nat.zero_add]
  | succ j ih =>
    intro s t h
    cases hs : step s with
    | next u =>
      rw [run_succ j hs] at h
      rw [Nat.add_right_comm, run_succ _ hs, ih h]
    | fault r => simp [run, hs] at h
    | refused r => simp [run, hs] at h

theorem run_eq_core_run (k : Nat) : ∀ s : State, run k s = Sys2Proof.core.run k s := by
  induction k with
  | zero => intro s; rfl
  | succ k ih =>
    intro s
    cases h : step s with
    | next t =>
      have hc : Sys2Proof.core.step s = .next t := h
      simp only [run, Host.Core.run, h, hc, ih]
      rfl
    | fault r =>
      have hc : Sys2Proof.core.step s = .fault r := h
      simp only [run, Host.Core.run, h, hc]
      rfl
    | refused r =>
      have hc : Sys2Proof.core.step s = .refused r := h
      simp only [run, Host.Core.run, h, hc]
      rfl

/-- Outside IDLE a built, unreset instance runs its latched command. -/
theorem step_inProgress {s : State} (hb : instanceExists s.config = true) (hr : s.resetIn = false)
    (hi : s.fsm ≠ .idle) : step s = exec (latchedCommand s) s :=
  step_of_command hb hr (nextWork_inProgress hi)

end Sys2Proof.Machine
end

