-- ==== Sys2Proof/Laws/System.lean ====
section
/-!
SUPPORT. What the construction of a whole system gives, once: the regions inputs claim, when they are apart, and the
construction at each place of the set.
-/

namespace Sys2Proof.Machine

/-- The regions of inputs that give an instance. -/
theorem claimedRegions_of_ok {tables : RateTables} {i : ConstructionInputs} {c : Config}
    (h : construct tables [] i = .ok c) : claimedRegions tables i = instanceRegions c := by
  simp [claimedRegions, h]

/-- Inputs that give no instance claim no region. -/
theorem claimedRegions_of_error {tables : RateTables} {i : ConstructionInputs} {e : ConstructionError}
    (h : construct tables [] i = .error e) : claimedRegions tables i = [] := by
  simp [claimedRegions, h]

/-- Inputs that claim a region give an instance with that region. -/
theorem mem_claimedRegions_iff {tables : RateTables} {i : ConstructionInputs} {r : Region} :
    r ∈ claimedRegions tables i ↔ ∃ c, construct tables [] i = .ok c ∧ r ∈ instanceRegions c := by
  cases h : construct tables [] i with
  | ok c => simp [claimedRegions_of_ok h]
  | error e => simp [claimedRegions_of_error h]

theorem regionsApart_iff (rs qs : List Region) :
    regionsApart rs qs = true ↔ ∀ r ∈ rs, ∀ q ∈ qs, regionsOverlap r q = false := by
  simp [regionsApart]

theorem claimsApart_iff (tables : RateTables) (is : List ConstructionInputs) : claimsApart tables is = true ↔
    is.Pairwise (fun a b => ∀ r ∈ claimedRegions tables a, ∀ q ∈ claimedRegions tables b,
      regionsOverlap r q = false) := by
  simp [claimsApart, List.pairwise_map, regionsApart_iff]

@[simp] theorem constructFrom_length (tables : RateTables) (is : List ConstructionInputs) :
    ∀ seen, (constructFrom tables seen is).length = is.length := by
  induction is with
  | nil => intro seen; rfl
  | cons i rest ih => intro seen; simp [constructFrom, ih]

/-- The construction at place `k` is that of the inputs there, beside the regions all the others claim. -/
theorem constructFrom_getElem? (tables : RateTables) (is : List ConstructionInputs) : ∀ (seen : List Region) (k : Nat),
    (constructFrom tables seen is)[k]? = is[k]?.map (fun i => construct tables
      (seen ++ (is.take k).flatMap (claimedRegions tables) ++ (is.drop (k + 1)).flatMap (claimedRegions tables)) i) := by
  induction is with
  | nil => intro seen k; simp [constructFrom]
  | cons i rest ih =>
    intro seen k
    cases k with
    | zero => simp [constructFrom]
    | succ k => simp [constructFrom, ih]

theorem constructAll_ok_iff (tables : RateTables) (is : List ConstructionInputs)
    (rs : List (Except ConstructionError Config)) :
    constructAll tables is = .ok rs ↔ claimsApart tables is = true ∧ rs = constructFrom tables [] is := by
  unfold constructAll
  by_cases h : claimsApart tables is = true
  · rw [if_pos h, Except.ok.injEq]
    exact ⟨fun e => ⟨h, e.symm⟩, fun e => e.2.symm⟩
  · rw [if_neg h]
    exact ⟨fun e => (nomatch e), fun e => absurd e.1 h⟩

end Sys2Proof.Machine
end

