-- ==== Sys2Proof/Tests/Slice0.lean ====
section
/-!
SUPPORT. Tests against 95_test_vectors.md, and a witness for the hypotheses of every obligation that has some.
Expected values come from that file; each test names its row.
-/

namespace Sys2Proof.Tests

open Sys2Proof.Machine

/-! ## Small states -/

/-- The fixture instance `sys`. -/
def sysConfig : Config :=
  { Config.fixtureCore with
    variant := .systemPll, mainBase := 0x1010, auxBase := none, otherRegions := [⟨0x1000, 16⟩, ⟨0x2000, 4⟩, ⟨0x1020, 16⟩] }

/-- The fixture instance `hdmi`, with the `AUX_BASE` of row K3. -/
def hdmiConfig : Config :=
  { Config.fixtureCore with
    variant := .hdmiPll, mainBase := 0x1020, auxBase := some 0x3000, otherRegions := []
    table := [⟨266666664, 0, 7, 1, 0⟩, ⟨400000000, 0, 11, 1, 0⟩, ⟨600000000, 0, 17, 1, 1⟩] }

/-- The fixture `core` with the empty table `T_E`. -/
def emptyConfig : Config := { Config.fixtureCore with table := [] }

/-- The fixture `core` with the one entry the source gives. -/
def sourceConfig : Config := { Config.fixtureCore with table := [⟨233000000, 1, 27, 2, 0⟩] }

/-- The fixture `core` with ten ticks a microsecond. -/
def clockedConfig : Config := { Config.fixtureCore with ticksPerUs := 10 }

/-- The fixture `core` whose CTRL answers as the PLL likes. -/
def oracleConfig : Config := { Config.fixtureCore with ctrlReadback := .oracle }

/-- An instance just after bring-up, CTRL's draw 0x3618, with a request on its port. -/
def asking (c : Config) (op : BitVec 2) (f : Freq) : State :=
  { State.bringUp c 0x3618 0 with reqValid := true, reqOpIn := op, reqFreqIn := f }

/-- An instance in an FSM state with a latched command; the PLL will answer STATUS with `w`. -/
def doing (c : Config) (st : Fsm) (op : Op) (f : Freq) (w : Word) : State :=
  { State.bringUp c 0x3618 0 with fsm := st, reqOp := op, reqFreq := f, statusAnswers := [w] }

/-- SET_RATE 250000000 on `core` in CHECK: row Q2 before its STATUS read. -/
def checking (w : Word) : State :=
  { doing Config.fixtureCore .check .setRate 250000000 w with
    cfg := ⟨233000000, 1, 27, 2, 0⟩, history := [.write 0x1000 0x3618, .waitDone] }

/-- SET_RATE 594000000 on `hdmi` in CHECK: row Q14 before its STATUS read. -/
def hdmiChecking : State :=
  { doing hdmiConfig .check .setRate 594000000 1 with
    cfg := ⟨600000000, 0, 17, 1, 1⟩, history := [.write 0x1020 0x102204, .waitDone] }

/-- The response an outcome holds. -/
def answer : Result → Option (Fsm × RspStatus × Freq)
  | .next t => some (t.fsm, t.rspStatus, t.rspFreq)
  | .fault _ => none
  | .refused _ => none

/-- The FSM state and the history of an outcome. -/
def trace : Result → Option (Fsm × List Event)
  | .next t => some (t.fsm, t.history)
  | .fault _ => none
  | .refused _ => none

/-! ## Decoding, word by word (R63) -/

/-- L2.1: GET_RATE, whose operand bits are ignored, as an all-zero word and with operand 5. -/
theorem test_decode_getRate :
    decode (0#64 ++ 0b00#2) = .ok (.getRate 0) ∧ decode 0b10100#66 = .ok (.getRate 5) := by decide

/-- P1 line 3: SET_RATE 250000000 is 0x3B9ACA01. -/
theorem test_decode_setRate :
    decode (0b1110111001101011001010000000#64 ++ 0b01#2) = .ok (.setRate 250000000) ∧
    decode 0x3B9ACA01 = .ok (.setRate 250000000) := by decide

/-- P1 line 2: ROUND_RATE 250000000 is 0x3B9ACA02. -/
theorem test_decode_roundRate :
    decode (0b1110111001101011001010000000#64 ++ 0b10#2) = .ok (.roundRate 250000000) ∧
    decode 0x3B9ACA02 = .ok (.roundRate 250000000) := by decide

/-- X7: word 0x3 is reserved; so is every word whose low bits are 0b11. -/
theorem test_decode_reserved :
    decode 3 = .error .reservedCommand ∧ decode 0x3FFFFFFFFFFFFFFFF = .error .reservedCommand := by decide

/-- R66: a word of more than 66 bits is no command word. -/
theorem test_decode_too_wide : decodeTableWord 72 0x40000000000000001 = none := by decide

/-! ## Ill-formed requests and configurations -/

theorem test_request_code_refused : (Request.mk 3 5).wellFormed = false := by decide

theorem test_request_freq_refused :
    (Request.mk 1 (2 ^ 64)).wellFormed = false ∧ (Request.mk 1 (2 ^ 64 - 1)).wellFormed = true := by decide

/-- Inputs that build the fixture `core`. -/
def coreInputs : ConstructionInputs where
  variant := .coreClock
  mainBase := some 0x1000
  auxBase := some 0x2000
  addrWidth := 32
  auxDiv1Code := 0
  auxDiv2Code := 1

/-- Inputs that build the fixtures `sys` and `hdmi`, the latter with the `AUX_BASE` of row K3. -/
def sysInputs : ConstructionInputs := { coreInputs with variant := .systemPll, mainBase := some 0x1010, auxBase := none }

def hdmiInputs : ConstructionInputs :=
  { coreInputs with variant := .hdmiPll, mainBase := some 0x1020, auxBase := some 0x3000 }

/-- Two tables of a system, as written: entries of `T_G` and of `T_H`. -/
def tables : RateTables where
  generic := [⟨100000000, 0, 11, 3, 0⟩, ⟨233000000, 1, 27, 2, 0⟩]
  hdmi := [⟨600000000, 0, 17, 1, 1⟩]

/-- The error a construction names. -/
def errorOf {α : Type} : Except ConstructionError α → Option ConstructionError
  | .ok _ => none
  | .error e => some e

/-- The error construction of some inputs names, with the tables above. -/
def failure (others : List Region) (i : ConstructionInputs) : Option ConstructionError :=
  errorOf (construct tables others i)

/-- K1, and R115 item 2. -/
theorem test_missing_base_refused :
    failure [] { coreInputs with auxBase := none } = some .auxBaseMissing ∧
    failure [] { coreInputs with mainBase := none } = some .mainBaseMissing := by decide

/-- K4. -/
theorem test_misaligned_base_refused :
    failure [] { coreInputs with mainBase := some 0x1002 } = some .misalignedBase := by decide

/-- K8, and the highest base that fits. -/
theorem test_wide_address_refused :
    failure [] { coreInputs with mainBase := some 0xFFFFFFF4 } = some .addressTooWide ∧
    failure [] { coreInputs with mainBase := some 0xFFFFFFF0 } = none := by decide

/-- K5 and K6. -/
theorem test_ill_formed_table_refused :
    errorOf (construct { tables with generic := [⟨233000000, 1, 27, 2, 0⟩, ⟨233000000, 0, 14, 1, 0⟩] } [] sysInputs) =
      some .illFormedTable ∧
    errorOf (construct { tables with generic := [⟨233000000, 32, 27, 2, 0⟩] } [] sysInputs) = some .illFormedTable := by
  decide

/-- K7. -/
theorem test_equal_codes_refused : failure [] { coreInputs with auxDiv2Code := 0 } = some .equalAuxCodes := by decide

/-- R5: the reference stays below 2^56. -/
theorem test_fast_reference_refused :
    failure [] { coreInputs with refHz := 2 ^ 56 } = some .referenceTooFast ∧
    failure [] { coreInputs with refHz := 2 ^ 56 - 1 } = none := by decide

/-- K9 and K10. -/
theorem test_overlap_refused :
    failure [⟨0x1008, 16⟩] coreInputs = some .overlappingRegions ∧
    failure [] { coreInputs with auxBase := some 0x100C } = some .overlappingRegions := by decide

/-- K3, K11 and K12: an unused AUX_BASE, an unsorted table and an empty one are no failures. -/
theorem test_accepted_configurations :
    failure [] hdmiInputs = none ∧
    errorOf (construct { tables with generic := [⟨300000000, 1, 35, 2, 0⟩, ⟨233000000, 1, 27, 2, 0⟩] } [] sysInputs) =
      none ∧
    errorOf (construct { tables with generic := [⟨0, 99, 99, 99, 99⟩, ⟨5, 99, 0, 0, 0⟩] } [] sysInputs) = none := by
  decide

/-- The error of each construction of a set of inputs, or the set's refusal. -/
def failures (is : List ConstructionInputs) : Option (List (Option ConstructionError)) :=
  match constructAll tables is with
  | .ok rs => some (rs.map errorOf)
  | .error _ => none

/-- K9: a set of overlapping instances is refused. K1 beside `sys` and `hdmi`: one input without an instance hinders no
other, and claims no region. -/
theorem test_system_construction :
    failures [coreInputs, { sysInputs with mainBase := some 0x1008 }] = none ∧
    failures [{ coreInputs with auxBase := none }, sysInputs, hdmiInputs] = some [some .auxBaseMissing, none, none] ∧
    failures [{ coreInputs with auxBase := none }, { sysInputs with mainBase := some 0x1000 }] =
      some [some .auxBaseMissing, none] := by decide

/-! ## The operations -/

/-- E3, E8, E9: the maximal codes, the band, the input divider. -/
theorem test_encode_words :
    encodeControl ⟨1, 31, 127, 3, 4095⟩ = 0xFFF0FFFC ∧ encodeControl ⟨600000000, 0, 17, 1, 1⟩ = 0x00102204 ∧
    encodeControl ⟨510000000, 4, 37, 0, 0⟩ = 0x00004A40 := by decide

/-- G9, G11, G12, G16, G19, and the overflow corner. -/
theorem test_decode_rates :
    decodeControl 0x0000FE00 33333333 = 8533333248 ∧ decodeControl 0x000001FC 33333333 = 260416 ∧
    decodeControl 0x0000000C 33333333 = 8333333 ∧ decodeControl 0x000F3618 33333333 = 233333331 ∧
    decodeControl 0x00004A40 33333333 = 506666661 ∧
    decodeControl 0x0000FE00 0xFFFFFFFFFFFFFF = 18446744073709551360 := by decide

/-- M3, M4, M7, M10: two ties, one past a tie, and the largest request. -/
theorem test_nearest :
    findNearest Config.fixtureTable 266500000 = some 233000000 ∧
    findNearest Config.fixtureTable 266500001 = some 300000000 ∧
    findNearest Config.fixtureTable 18446744073709551615 = some 600000000 ∧
    findNearest Config.fixtureTable 550000000 = some 500000000 := by decide

/-- LK3, LK4: no such target; target 0 never matches. -/
theorem test_lookup :
    lookupByTarget Config.fixtureTable 250000000 = none ∧ lookupByTarget Config.fixtureTable 0 = none ∧
    lookupByTarget Config.fixtureTable 300000000 = some ⟨300000000, 1, 35, 2, 0⟩ := by decide

/-- R67: an upper-case hexadecimal frequency, a comment, and lines that are no command. -/
theorem test_text :
    parseLine "SET_RATE 0x8F0D180 ; note".toList = some ⟨.setRate 150000000, none⟩ ∧
    parseLine "SET_RATE 18446744073709551616".toList = none ∧ parseLine "GET_RATE 5".toList = none ∧
    parseLine "ROUND_RATE".toList = none := by decide

/-! ## The commands, one step each -/

/-- G18 and G4: the source's word, and powerdown over bypass. -/
theorem test_getRate_reads_ctrl :
    answer (exec (.getRate 0) (doing Config.fixtureCore .getrd .getRate 0 0)) = some (.resp, .ok, 233333331) ∧
    answer (exec (.getRate 0) { doing Config.fixtureCore .getrd .getRate 0 0 with ctrl := 3 }) =
      some (.resp, .ok, 0) := by decide

/-- G18: GET_RATE's one event. -/
theorem test_getRate_event :
    trace (exec (.getRate 0) (doing Config.fixtureCore .getrd .getRate 0 0)) =
      some (.resp, [.read 0x1000 0x3618]) := by decide

/-- M1 and X1. -/
theorem test_roundRate_matches :
    answer (exec (.roundRate 250000000) (doing Config.fixtureCore .matching .roundRate 250000000 0)) =
      some (.resp, .ok, 233000000) ∧
    answer (exec (.roundRate 250000000) (doing emptyConfig .matching .roundRate 250000000 0)) =
      some (.resp, .invalidConfiguration, 0) := by decide

/-- Q3, Q4, Q18: the threshold exactly, above it by one, and the empty table before it. -/
theorem test_setRate_match :
    answer (exec (.setRate 0) (doing Config.fixtureCore .matching .setRate 500000000 0)) = some (.program, .ok, 0) ∧
    answer (exec (.setRate 0) (doing Config.fixtureCore .matching .setRate 500000001 0)) = some (.pre, .ok, 0) ∧
    answer (exec (.setRate 0) (doing emptyConfig .matching .setRate 600000000 0)) =
      some (.resp, .invalidConfiguration, 0) := by decide

/-- Q2, Q8, Q9, Q10: the four combinations of the status bits. -/
theorem test_setRate_check :
    answer (exec (.setRate 0) (checking 1)) = some (.post, .ok, 0) ∧
    answer (exec (.setRate 0) (checking 2)) = some (.resp, .lockTimeout, 0) ∧
    answer (exec (.setRate 0) (checking 3)) = some (.resp, .hardwareError, 0) ∧
    answer (exec (.setRate 0) (checking 0xFFFFFFFD)) = some (.post, .ok, 0) := by decide

/-- The first step after reset runs the presented command, whichever it is. -/
theorem test_first_step_after_reset :
    answer (step (State.reset.withFetchWord 72 0x14)) = some (.getrd, .ok, 0) ∧
    answer (step (State.reset.withFetchWord 72 0x3B9ACA01)) = some (.matching, .ok, 0) ∧
    answer (step (State.reset.withFetchWord 72 0x3B9ACA02)) = some (.matching, .ok, 0) ∧
    answer (step (State.reset.withFetchWord 72 3)) = none := by decide

/-! ## Witnesses: encoding and the codec -/

theorem witness_DecodeAndEncodeAgree :
    (Instr.setRate 18446744073709551615).wellFormed = true ∧ decode 0x3FFFFFFFFFFFFFFFD = .ok (.setRate 18446744073709551615) := by
  decide

theorem witness_EncodePacksTheCodes :
    entryOfRaw ⟨1, 32, 0, 0, 0⟩ = none ∧ entryOfRaw ⟨1, 0, 128, 0, 0⟩ = none ∧ entryOfRaw ⟨1, 0, 0, 4, 0⟩ = none ∧
    entryOfRaw ⟨1, 0, 0, 0, 4096⟩ = none ∧ entryOfRaw ⟨1, 31, 127, 3, 4095⟩ = some ⟨1, 31, 127, 3, 4095⟩ := by decide

theorem witness_PowerdownAndBypassDecode :
    (3 : Word).getLsbD 0 = true ∧ ((2 : Word).getLsbD 0 = false ∧ (2 : Word).getLsbD 1 = true) ∧
    (0xFFFF3618 : Word).extractLsb' 0 16 = (0x3618 : Word).extractLsb' 0 16 := by decide

/-! ## Witnesses: what a step runs -/

theorem witness_StepRunsThePresentedCommand :
    instanceExists Config.fixtureCore = true ∧ (asking Config.fixtureCore 0 7).fsm = .idle ∧
    (asking Config.fixtureCore 0 7).resetIn = false ∧ (asking Config.fixtureCore 0 7).reqValid = true ∧
    decode (commandWord 0 7) = .ok (.getRate 7) ∧ decode (commandWord 1 7) = .ok (.setRate 7) ∧
    decode (commandWord 2 7) = .ok (.roundRate 7) := by decide

theorem witness_StepRunsTheCommandInProgress :
    instanceExists (checking 1).config = true ∧ (checking 1).resetIn = false ∧ (checking 1).fsm ≠ .idle ∧
    (Instr.setRate 250000000).op = (checking 1).reqOp ∧ (Instr.setRate 250000000).operand = (checking 1).reqFreq := by
  decide

theorem witness_IdleStaysAndRefusalsAreByName :
    (State.bringUp Config.fixtureCore 0 0).reqValid = false ∧ (asking Config.fixtureCore 3 0).reqOpIn = 3 ∧
    (asking Config.fixtureCore 3 0).reqValid = true ∧ (asking Config.fixtureCore 3 0).resetIn = false ∧
    (asking Config.fixtureCore 3 0).fsm = .idle ∧ instanceExists Config.fixtureCore = true ∧
    instanceExists { Config.fixtureCore with auxBase := none } = false := by decide

theorem witness_ResetReturnsToIdleFromAnyState :
    instanceExists (checking 1).config = true ∧ { checking 1 with resetIn := true }.resetIn = true ∧
    (checking 1).fsm = .check ∧ (checking 1).history ≠ [] := by decide

theorem witness_AcceptanceLatchesTheRequest : (asking Config.fixtureCore 1 250000000).fsm = .idle := by decide

theorem witness_PortsShowTheHandshake :
    (doing Config.fixtureCore .resp .getRate 0 0).fsm = .resp ∧ (checking 1).fsm ≠ .resp := by decide

theorem witness_ConsumedResponseReturnsToIdle :
    (doing Config.fixtureCore .resp .getRate 0 0).fsm = .resp ∧
    (doing Config.fixtureCore .resp .getRate 0 0).rspReady = true ∧
    { doing Config.fixtureCore .resp .getRate 0 0 with rspReady := false }.rspReady = false := by decide

/-! ## Witnesses: GET_RATE -/

theorem witness_GetRateRespondsWithTheDecodedRate :
    (doing Config.fixtureCore .getrd .getRate 0 0).fsm = .getrd := by decide

theorem witness_CtrlReadbackIsStorageOrOracle :
    Config.fixtureCore.ctrlReadback = .storage ∧
    (State.bringUp oracleConfig 0 0).config.ctrlReadback = .oracle ∧ (State.bringUp oracleConfig 0 0).ctrlAnswers = [] := by
  decide

/-- A request on the port of an instance that exists. -/
theorem asking_presented (c : Config) (op : BitVec 2) (f : Freq) (h : instanceExists c = true) :
    Presented (asking c op f) op f :=
  ⟨h, rfl, rfl, rfl, rfl, rfl⟩

theorem witness_GetRateRunsToItsResponse : Presented (asking oracleConfig 0 9) 0 9 :=
  asking_presented _ _ _ (by decide)

theorem witness_QueriesLeaveThePllAlone :
    ((Instr.getRate 0).op ≠ .setRate ∧ ∃ t, exec (.getRate 0) (doing oracleConfig .getrd .getRate 0 0) = .next t) ∧
    ((Instr.roundRate 5).op = .roundRate ∧
      ∃ t, exec (.roundRate 5) (doing Config.fixtureCore .matching .roundRate 5 0) = .next t) :=
  ⟨⟨by decide, _, rfl⟩, rfl, _, rfl⟩

/-! ## Witnesses: the matcher -/

theorem witness_NearestEntryIsChosen : entries Config.fixtureTable ≠ [] := by decide

theorem witness_NearestCornerCases :
    (⟨233000000, 1, 27, 2, 0⟩ : DividerConfiguration) ∈ entries Config.fixtureTable ∧
    findNearest Config.fixtureTable 0 = some 100000000 ∧
    findNearest Config.fixtureTable 18446744073709551615 = some 600000000 ∧
    entries sourceConfig.table = [⟨233000000, 1, 27, 2, 0⟩] ∧ effLen [] = 0 := by decide

theorem witness_SentinelEndsTheTable :
    (∀ e ∈ sourceConfig.table, e.target ≠ 0) ∧ (⟨0, 1, 1, 1, 1⟩ : DividerConfiguration).target = 0 ∧
    entries (sourceConfig.table ++ ⟨0, 1, 1, 1, 1⟩ :: Config.fixtureTable) = sourceConfig.table := by decide

theorem witness_LookupFindsTheFirstEntry :
    lookupByTarget Config.fixtureTable 600000000 = some ⟨600000000, 0, 17, 1, 0⟩ := by decide

theorem witness_LookupOfTheNearestNeverFails :
    chosenEntry Config.fixtureTable 250000000 = some ⟨233000000, 1, 27, 2, 0⟩ ∧ chosenEntry [] 5 = none := by decide

theorem witness_RoundRateRespondsWithTheNearestTarget :
    (doing Config.fixtureCore .matching .roundRate 5 0).fsm = .matching ∧
    findNearest Config.fixtureTable 5 = some 100000000 ∧ findNearest emptyConfig.table 5 = none := by decide

theorem witness_RoundRateRunsToItsResponse :
    Presented (asking Config.fixtureCore 2 250000000) 2 250000000 ∧
    findNearest Config.fixtureTable 250000000 = some 233000000 ∧
    Presented (asking emptyConfig 2 1) 2 1 ∧ findNearest emptyConfig.table 1 = none :=
  ⟨asking_presented _ _ _ (by decide), by decide, asking_presented _ _ _ (by decide), by decide⟩

/-! ## Witnesses: SET_RATE, state by state -/

theorem witness_SetRateMatchLatchesTheEntry :
    (doing Config.fixtureCore .matching .setRate 500000000 0).fsm = .matching ∧
    chosenEntry Config.fixtureTable 500000000 = some ⟨500000000, 0, 14, 1, 0⟩ ∧
    chosenEntry Config.fixtureTable 500000001 = some ⟨500000000, 0, 14, 1, 0⟩ ∧
    chosenEntry emptyConfig.table 500000001 = none := by decide

theorem witness_PreWritesDivideByTwo :
    ((doing Config.fixtureCore .pre .setRate 600000000 0).fsm = .pre ∧ Config.fixtureCore.auxBase = some 0x2000) ∧
    ∃ t, exec (.setRate 0) (doing Config.fixtureCore .matching .setRate 500000001 0) = .next t ∧ t.fsm = .pre :=
  ⟨by decide, _, rfl, by decide⟩

theorem witness_ProgramWritesTheEncodedWord :
    (doing Config.fixtureCore .program .setRate 600000000 0).fsm = .program := by decide

theorem witness_WaitStaysUntilTheTimeHasElapsed :
    (doing clockedConfig .wait .setRate 5 0).fsm = .wait ∧
    { doing clockedConfig .wait .setRate 5 0 with waitTimer := 999 }.waitTimer <
      clockedConfig.lockWaitUs * clockedConfig.ticksPerUs ∧
    clockedConfig.lockWaitUs * clockedConfig.ticksPerUs ≤
      { doing clockedConfig .wait .setRate 5 0 with waitTimer := 1000 }.waitTimer := by decide

theorem witness_CheckTestsLockThenError :
    (checking 0).fsm = .check ∧ (statusAnswer (checking 2)).getLsbD 0 = false ∧
    (statusAnswer (checking 3)).getLsbD 0 = true ∧ (statusAnswer (checking 3)).getLsbD 1 = true ∧
    (statusAnswer (checking 1)).getLsbD 0 = true ∧ (statusAnswer (checking 1)).getLsbD 1 = false ∧
    (checking 1).config.variant = .coreClock ∧ (checking 1).reqFreq.toNat ≤ (checking 1).config.thresholdHz.toNat ∧
    hdmiChecking.config.variant ≠ .coreClock ∧ statusAnswer hdmiChecking = 1 := by decide

theorem witness_StatusReadIsADraw :
    (State.bringUp Config.fixtureCore 0 0).statusAnswers = [] ∧
    { checking 0 with statusAnswers := [1, 0, 3] }.statusAnswers = 1 :: 0 :: [3] := by decide

theorem witness_PostWritesDivideByOne :
    ((doing Config.fixtureCore .post .setRate 5 0).fsm = .post ∧ Config.fixtureCore.auxBase = some 0x2000) ∧
    ∃ t, exec (.setRate 0) (checking 0xFFFFFFFD) = .next t ∧ t.fsm = .post :=
  ⟨by decide, _, rfl, by decide⟩

theorem witness_SetRateFrame :
    (∃ t, exec (.setRate 0) (checking 1) = .next t) ∧
    (∃ t, exec (.setRate 0) (doing Config.fixtureCore .program .setRate 5 0) = .next t) ∧
    ∃ t, exec (.setRate 0) (doing Config.fixtureCore .post .setRate 5 0) = .next t :=
  ⟨⟨_, rfl⟩, ⟨_, rfl⟩, _, rfl⟩

theorem witness_EachCommandRespondsItsOwnStatuses :
    (∃ t, exec (.roundRate 5) (doing emptyConfig .matching .roundRate 5 0) = .next t ∧ t.fsm = .resp) ∧
    (∃ t, exec (.setRate 5) (doing emptyConfig .matching .setRate 5 0) = .next t ∧ t.fsm = .resp) ∧
    ∃ t, exec (.setRate 5) (checking 3) = .next t ∧ t.fsm = .resp ∧ t.rspStatus = .hardwareError :=
  ⟨⟨_, rfl, rfl⟩, ⟨_, rfl, rfl⟩, _, rfl, rfl, rfl⟩

theorem witness_OffPathStatesStop :
    onPath .getRate .matching = false ∧ onPath .setRate .getrd = false ∧ onPath .roundRate .check = false ∧
    (doing sysConfig .pre .setRate 5 0).config.auxBase = none := by decide

/-! ## Witnesses: SET_RATE, whole -/

theorem witness_WaitLastsItsTicks :
    instanceExists clockedConfig = true ∧ (doing clockedConfig .wait .setRate 5 0).resetIn = false ∧
    (doing clockedConfig .wait .setRate 5 0).fsm = .wait ∧ (doing clockedConfig .wait .setRate 5 0).reqOp = .setRate ∧
    (doing clockedConfig .wait .setRate 5 0).waitTimer = 0 ∧ waitTicks clockedConfig = 1000 := by decide

/-- Above the threshold, and exactly at it with a PLL that will lock. -/
theorem witness_SetRateRunsItsWholeSequence :
    (Presented (asking clockedConfig 1 600000000) 1 600000000 ∧
      chosenEntry clockedConfig.table 600000000 = some ⟨600000000, 0, 17, 1, 0⟩) ∧
    Presented { asking clockedConfig 1 500000000 with statusAnswers := [1] } 1 500000000 ∧
    chosenEntry clockedConfig.table 500000000 = some ⟨500000000, 0, 14, 1, 0⟩ :=
  ⟨⟨asking_presented _ _ _ (by decide), by decide⟩, ⟨by decide, rfl, rfl, rfl, rfl, rfl⟩, by decide⟩

theorem witness_SetRateOnAnEmptyTableTouchesNothing :
    Presented (asking emptyConfig 1 600000000) 1 600000000 ∧ entries emptyConfig.table = [] :=
  ⟨asking_presented _ _ _ (by decide), by decide⟩

/-- A presented SET_RATE whose PLL will answer STATUS with `w`. -/
def asked (c : Config) (f : Freq) (w : Word) : State := { asking c 1 f with statusAnswers := [w] }

theorem asked_presented (c : Config) (f : Freq) (w : Word) (h : instanceExists c = true) : Presented (asked c f w) 1 f :=
  ⟨h, rfl, rfl, rfl, rfl, rfl⟩

/-- Every clause at its boundary: one above the threshold and the threshold itself, with the four status words, and
another variant that was given an `AUX_BASE`. -/
theorem witness_AuxWritesFrameTheReprogramming :
    (∀ f w, Presented (asked Config.fixtureCore f w) 1 f) ∧ Config.fixtureCore.variant = .coreClock ∧
    chosenEntry Config.fixtureCore.table 500000001 = some ⟨500000000, 0, 14, 1, 0⟩ ∧
    Config.fixtureCore.thresholdHz.toNat < (500000001 : Freq).toNat ∧
    chosenEntry Config.fixtureCore.table 500000000 = some ⟨500000000, 0, 14, 1, 0⟩ ∧
    (500000000 : Freq).toNat ≤ Config.fixtureCore.thresholdHz.toNat ∧
    (statusAnswer (asked Config.fixtureCore 500000000 1)).getLsbD 0 = true ∧
    (statusAnswer (asked Config.fixtureCore 500000000 1)).getLsbD 1 = false ∧
    (∀ w, statusAnswer (asked Config.fixtureCore 500000000 w) = w) ∧
    ¬((2 : Word).getLsbD 0 = true ∧ (2 : Word).getLsbD 1 = false) ∧
    ¬((3 : Word).getLsbD 0 = true ∧ (3 : Word).getLsbD 1 = false) ∧
    Presented (asked hdmiConfig 594000000 1) 1 594000000 ∧ hdmiConfig.variant ≠ .coreClock ∧
    hdmiConfig.auxBase = some 0x3000 ∧ chosenEntry hdmiConfig.table 594000000 = some ⟨600000000, 0, 17, 1, 1⟩ :=
  ⟨fun f w => asked_presented _ f w (by decide), by decide, by decide, by decide, by decide, by decide, by decide,
    by decide, fun _ => rfl, by decide, by decide, asked_presented _ _ _ (by decide), by decide, by decide, by decide⟩

/-- The PLL of this state will lock. -/
def locking : State := { asking Config.fixtureCore 1 250000000 with statusAnswers := [1] }

theorem witness_RoundRatePreviewsSetRate :
    Presented locking 1 250000000 ∧ Presented (asking Config.fixtureCore 2 250000000) 2 250000000 ∧
    locking.config = (asking Config.fixtureCore 2 250000000).config ∧
    chosenEntry locking.config.table 250000000 = some ⟨233000000, 1, 27, 2, 0⟩ ∧
    statusError (statusAnswer locking) = none :=
  ⟨⟨by decide, rfl, rfl, rfl, rfl, rfl⟩, asking_presented _ _ _ (by decide), rfl, by decide, by decide⟩

theorem witness_GetRateAfterSetRateDecodesTheEntry :
    Presented locking 1 250000000 ∧ locking.config.ctrlReadback = .storage ∧ locking.rspReady = true ∧
    chosenEntry locking.config.table 250000000 = some ⟨233000000, 1, 27, 2, 0⟩ :=
  ⟨⟨by decide, rfl, rfl, rfl, rfl, rfl⟩, by decide, by decide, by decide⟩

/-- The one entry the source gives keeps the sides of the threshold. -/
theorem sourceConfig_keepsSides : tableKeepsSides sourceConfig := by
  intro f t _ h
  simp [findNearest, entries, sourceConfig, nearestFrom] at h
  subst h
  decide

/-- SET_RATE 500000000 on that table in POST, after a passed check. -/
def posting : State :=
  { doing sourceConfig .post .setRate 500000000 0 with
    cfg := ⟨233000000, 1, 27, 2, 0⟩, ctrl := 0x3618
    history := [.write 0x1000 0x3618, .waitDone, .read 0x1004 1] }

theorem posting_inv : posting.Inv where
  built := by decide
  path := by decide
  entry := by decide
  preSide := by decide
  postSide := by decide
  timer := by decide
  auxRecord := by simp [posting, doing, State.bringUp]
  errorFreq := by decide
  events := by
    intro e he
    simp [posting] at he
    rcases he with rfl | rfl | rfl
    · exact .inl ⟨rfl, ⟨233000000, 1, 27, 2, 0⟩, by decide, by decide⟩
    · trivial
    · exact .inr rfl

theorem witness_DutifulTableNeverOverclocks :
    (posting.Inv ∧ tableKeepsSides posting.config ∧ posting.fsm = .post ∧ posting.config.auxBase = some 0x2000 ∧
      ∃ t, step posting = .next t ∧ t.history = posting.history ++ [.write 0x2000 posting.config.auxDiv1Code]) ∧
    Presented (asked sourceConfig 500000000 1) 1 500000000 ∧
    chosenEntry sourceConfig.table 500000000 = some ⟨233000000, 1, 27, 2, 0⟩ := by
  refine ⟨⟨posting_inv, sourceConfig_keepsSides, rfl, rfl, ?_⟩, asked_presented _ _ _ (by decide), by decide⟩
  have hb : instanceExists posting.config = true := by decide
  have hw : nextWork posting = .command (.setRate 500000000) := by rfl
  exact ⟨respond .ok 233000000 (writeAux 0x2000 0 posting), by unfold step; rw [hb, hw]; rfl, rfl⟩

/-! ## Witnesses: invariants -/

/-- The state of row Q2 before its STATUS read meets the invariant. -/
theorem checking_inv : (checking 1).Inv where
  built := by decide
  path := by decide
  entry := by decide
  preSide := by decide
  postSide := by decide
  timer := by decide
  auxRecord := by simp [checking, doing, State.bringUp]
  errorFreq := by decide
  events := by
    intro e he
    simp [checking] at he
    rcases he with rfl | rfl
    · exact .inl ⟨rfl, ⟨233000000, 1, 27, 2, 0⟩, by decide, by decide⟩
    · trivial

/-- The state of row Q14 before its STATUS read meets the invariant. -/
theorem hdmiChecking_inv : hdmiChecking.Inv where
  built := by decide
  path := by decide
  entry := by decide
  preSide := by decide
  postSide := by decide
  timer := by decide
  auxRecord := by simp [hdmiChecking, doing, State.bringUp]
  errorFreq := by decide
  events := by
    intro e he
    simp [hdmiChecking] at he
    rcases he with rfl | rfl
    · exact .inl ⟨rfl, ⟨600000000, 0, 17, 1, 1⟩, by decide, by decide⟩
    · trivial

/-- A request with the reserved code meets the invariant too: it says nothing of the ports. -/
theorem asking_reserved_inv : (asking Config.fixtureCore 3 0).Inv where
  built := by decide
  path := by decide
  entry := by decide
  preSide := by decide
  postSide := by decide
  timer := by decide
  auxRecord := by simp [asking, State.bringUp]
  errorFreq := by decide
  events := by simp [asking, State.bringUp]

theorem checking_steps : ∃ t, step (checking 1) = .next t := by
  have hb : instanceExists (checking 1).config = true := by decide
  have hw : nextWork (checking 1) = .command (.setRate 250000000) := by rfl
  exact ⟨checkStep (checking 1), by unfold step; rw [hb, hw]; rfl⟩

theorem witness_EveryStepKeepsTheInvariant : (checking 1).Inv ∧ ∃ t, step (checking 1) = .next t :=
  ⟨checking_inv, checking_steps⟩

theorem witness_InvariantHoldsAtReset : instanceExists Config.fixtureCore = true ∧ instanceExists hdmiConfig = true := by
  decide

theorem witness_ReachableStatesMeetTheInvariant : Reachable (asking Config.fixtureCore 1 250000000) :=
  .move _ _ (.present 1 250000000) (.bringUp Config.fixtureCore 0x3618 0 (by decide)) rfl

theorem witness_ConfigurationNeverChanges : ∃ t, step (checking 1) = .next t := checking_steps

theorem witness_NoStateIsStuck : (checking 1).Inv ∧ (asking Config.fixtureCore 3 0).Inv :=
  ⟨checking_inv, asking_reserved_inv⟩

theorem witness_EveryCommandIsAnswered :
    (checking 1).Inv ∧ (checking 1).resetIn = false ∧ inProgress (checking 1) = true :=
  ⟨checking_inv, by decide, by decide⟩

theorem witness_UnusedRegistersAreNeverAccessed :
    (checking 1).Inv ∧ some 0x1008 = registerAddr (checking 1).config .fmeas ∧
    some 0x100C = registerAddr (checking 1).config .mon ∧ some 0x1004 = registerAddr (checking 1).config .status ∧
    some 0x2000 = registerAddr (checking 1).config .aux :=
  ⟨checking_inv, by decide, by decide, by decide, by decide⟩

theorem witness_OtherVariantsNeverTouchAux :
    hdmiChecking.Inv ∧ hdmiChecking.config.variant ≠ .coreClock ∧ hdmiChecking.config.auxBase = some 0x3000 ∧
    ∃ t, step hdmiChecking = .next t := by
  refine ⟨hdmiChecking_inv, by decide, by decide, checkStep hdmiChecking, ?_⟩
  have hb : instanceExists hdmiChecking.config = true := by decide
  have hw : nextWork hdmiChecking = .command (.setRate 594000000) := by rfl
  unfold step; rw [hb, hw]; rfl

theorem witness_CtrlWritesNeverPowerDown :
    (checking 1).Inv ∧ Event.write (checking 1).config.mainBase 0x3618 ∈ (checking 1).history :=
  ⟨checking_inv, by decide⟩

theorem witness_OneTransactionAStep :
    ((checking 1).resetIn = false ∧ ∃ t, step (checking 1) = .next t) ∧
    ∃ t, exec (.setRate 0) (doing Config.fixtureCore .wait .setRate 5 0) = .next t :=
  ⟨⟨rfl, checking_steps⟩, _, rfl⟩

theorem witness_HostMovesTouchOnlyThePorts :
    (∃ t, hostMove (.present 1 5) (State.bringUp Config.fixtureCore 0 0) = some t) ∧
    hostMove (.present 1 5) (checking 1) = none ∧
    hostMove (.present 1 5) (doing Config.fixtureCore .resp .getRate 0 0) = none ∧
    (checking 1).Inv ∧ ∃ t, hostMove (.reset true) (checking 1) = some t :=
  ⟨⟨_, rfl⟩, rfl, rfl, checking_inv, _, rfl⟩

/-! ## Witnesses: construction and several instances -/

theorem witness_ConstructedConfigurationHasAnInstance :
    ∃ c, construct tables [⟨0x1010, 16⟩] coreInputs = .ok c := ⟨_, rfl⟩

/-- A set that is built, two of whose instances share the generic table, and a set that is refused. -/
theorem witness_BuiltInstancesShareNoAddress :
    (∃ c d e, constructAll tables [coreInputs, sysInputs, hdmiInputs] = .ok [.ok c, .ok d, .ok e] ∧
      c.variant ≠ .hdmiPll ∧ d.variant ≠ .hdmiPll) ∧
    constructAll tables [coreInputs, { sysInputs with mainBase := some 0x1008 }] = .error .overlappingRegions :=
  ⟨⟨_, _, _, rfl, by decide, by decide⟩, rfl⟩

theorem witness_InstancesAreIndependent :
    ∃ insts, stepInstance 1 [checking 1, State.bringUp sysConfig 0 0] = some (.next insts) := ⟨_, rfl⟩

end Sys2Proof.Tests
end

section
/-!
PROOFS. What CTRL's readback answers, the matcher's scan, the invariant along every run, and the step of one block
among several.
-/

namespace Sys2Proof.Machine

/-! ## CTRL's readback (R12) -/

/-- Under Oracle the next CTRL read returns the first of the answers the PLL has settled. -/
theorem ctrlAnswer_of_oracle_cons {s : State} {w : Word} {ws : List Word} (ho : s.config.ctrlReadback = .oracle)
    (ha : s.ctrlAnswers = w :: ws) : ctrlAnswer s = w := by
  simp [ctrlAnswer, ho, ha]

theorem takeCtrlAnswer_ctrlAnswers_of_oracle_cons {s : State} {w : Word} {ws : List Word}
    (ho : s.config.ctrlReadback = .oracle) (ha : s.ctrlAnswers = w :: ws) :
    (takeCtrlAnswer s).ctrlAnswers = ws := by
  simp [takeCtrlAnswer, ho, ha]

/-- A write of CTRL shows in the next read under Storage only; under Oracle the PLL's answers do not depend on it. -/
theorem ctrlAnswer_writeCtrl (v : Word) (s : State) :
    ctrlAnswer (writeCtrl v s) = if s.config.ctrlReadback = .storage then v else ctrlAnswer s := by
  cases h : s.config.ctrlReadback with
  | storage => simp [ctrlAnswer_storage, h]
  | oracle => simp [ctrlAnswer, h]

/-- GET_RATE in GETRD is the read of CTRL and nothing else. -/
theorem exec_getRate_getrd {x : Freq} {s t : State} (hf : s.fsm = .getrd) (h : exec (.getRate x) s = .next t) :
    t = getRead s := by
  rcases execGetRate_cases h with ⟨hi, -⟩ | ⟨-, ht⟩ | ⟨hr, -⟩
  · simp [hf] at hi
  · exact ht
  · simp [hf] at hr

/-- Settles O19: each readback's answer, a write seen through either, and the draw GETRD takes. -/
theorem ctrlReadbackIsStorageOrOracle : Obligations.CtrlReadbackIsStorageOrOracle := by
  refine ⟨fun s h => ⟨ctrlAnswer_storage h, takeCtrlAnswer_storage h⟩, fun s w ho ha => ?_,
    fun s v => ctrlAnswer_writeCtrl v s, fun x s t hf h => ?_⟩
  · have hq : ({ s with ctrlAnswers := s.ctrlAnswers ++ [w] } : State).ctrlAnswers = [w] := by simp [ha]
    exact ⟨_, rfl, ctrlAnswer_of_oracle_cons ho hq, takeCtrlAnswer_ctrlAnswers_of_oracle_cons ho hq⟩
  · simp [exec_getRate_getrd hf h, getRead_eq]

/-! ## The scan of FIND_NEAREST (R16, R71) -/

theorem distance_cast (f g : Freq) : (distance f g : Int) = |(f.toNat : Int) - (g.toNat : Int)| := by
  unfold distance
  split
  · rw [abs_of_nonneg] <;> omega
  · rw [abs_of_nonpos] <;> omega

@[simp] theorem distance_eq_zero_iff (f g : Freq) : distance f g = 0 ↔ f = g := by
  rw [← BitVec.toNat_inj]
  unfold distance
  split <;> omega

theorem distance_zero_left (f : Freq) : distance 0 f = f.toNat := by
  simp [distance, eq_comm]

/-- From the largest request the distance falls as the target rises. -/
theorem distance_max_left (f : Freq) : distance 18446744073709551615 f = 18446744073709551615 - f.toNat := by
  have hf : f.toNat ≤ 18446744073709551615 := by have := f.isLt; omega
  simp [distance, hf]

/-- The scan's result splits the list it scanned, the first entry included: everything before it is strictly farther, and
nothing after it is nearer. -/
theorem nearestFrom_split (f : Freq) (l : List DividerConfiguration) : ∀ best : DividerConfiguration,
    ∃ pre post, best :: l = pre ++ nearestFrom f best l :: post ∧
      (∀ d ∈ pre, distance f (nearestFrom f best l).target < distance f d.target) ∧
      (∀ d ∈ post, distance f (nearestFrom f best l).target ≤ distance f d.target) := by
  induction l with
  | nil => exact fun best => ⟨[], [], rfl, by simp, by simp⟩
  | cons d rest ih =>
    intro best
    by_cases hd : distance f d.target < distance f best.target
    · obtain ⟨pre, post, hsplit, hpre, hpost⟩ := ih d
      have hle : ∀ e ∈ d :: rest, distance f (nearestFrom f d rest).target ≤ distance f e.target := by
        rw [hsplit, List.forall_mem_append, List.forall_mem_cons]
        exact ⟨fun e he => (hpre e he).le, le_rfl, hpost⟩
      simp only [nearestFrom, if_pos hd]
      exact ⟨best :: pre, post, by rw [hsplit, List.cons_append],
        List.forall_mem_cons.2 ⟨(hle d List.mem_cons_self).trans_lt hd, hpre⟩, hpost⟩
    · obtain ⟨pre, post, hsplit, hpre, hpost⟩ := ih best
      simp only [nearestFrom, if_neg hd]
      cases pre with
      | nil =>
        obtain ⟨hb, hr⟩ := List.cons.inj hsplit
        rw [← hb] at hpost ⊢
        exact ⟨[], d :: post, by rw [hr, List.nil_append], by simp, List.forall_mem_cons.2 ⟨by omega, hpost⟩⟩
      | cons b pre =>
        obtain ⟨rfl, hr⟩ := List.cons.inj hsplit
        have hb := hpre best List.mem_cons_self
        refine ⟨best :: d :: pre, post, congrArg (best :: d :: ·) hr, ?_, hpost⟩
        exact List.forall_mem_cons.2 ⟨hb, List.forall_mem_cons.2 ⟨by omega, (List.forall_mem_cons.1 hpre).2⟩⟩

/-- The first entry, scanned again, replaces nothing. -/
theorem nearestFrom_self_cons (f : Freq) (d : DividerConfiguration) (rest : List DividerConfiguration) :
    nearestFrom f d (d :: rest) = nearestFrom f d rest := by
  simp [nearestFrom]

theorem findNearest_none_iff (t : RateTable) (f : Freq) : findNearest t f = none ↔ entries t = [] := by
  unfold findNearest
  cases entries t <;> simp

/-- FIND_NEAREST answers the target of an entry which every earlier one is strictly farther than, and no later one nearer
(R71, R72). -/
theorem findNearest_split {t : RateTable} {f r : Freq} (h : findNearest t f = some r) :
    ∃ pre e post, entries t = pre ++ e :: post ∧ e.target = r ∧
      (∀ d ∈ pre, distance f e.target < distance f d.target) ∧
      (∀ d ∈ post, distance f e.target ≤ distance f d.target) := by
  unfold findNearest at h
  cases hl : entries t with
  | nil => simp [hl] at h
  | cons d rest =>
    simp only [hl, Option.some.injEq, nearestFrom_self_cons] at h
    obtain ⟨pre, post, hsplit, hpre, hpost⟩ := nearestFrom_split f rest d
    exact ⟨pre, _, post, hsplit, h, hpre, hpost⟩

theorem findNearest_mem {t : RateTable} {f r : Freq} (h : findNearest t f = some r) : ∃ e ∈ entries t, e.target = r := by
  obtain ⟨pre, e, post, hsplit, he, -, -⟩ := findNearest_split h
  exact ⟨e, by simp [hsplit], he⟩

theorem findNearest_distance_le {t : RateTable} {f r : Freq} (h : findNearest t f = some r) :
    ∀ d ∈ entries t, distance f r ≤ distance f d.target := by
  obtain ⟨pre, e, post, hsplit, rfl, hpre, hpost⟩ := findNearest_split h
  simp only [hsplit, List.forall_mem_append, List.forall_mem_cons]
  exact ⟨fun d hd => (hpre d hd).le, le_rfl, hpost⟩

theorem findNearest_isSome_of_mem {t : RateTable} {e : DividerConfiguration} (f : Freq) (he : e ∈ entries t) :
    ∃ r, findNearest t f = some r := by
  refine Option.ne_none_iff_exists'.1 fun hn => ?_
  rw [(findNearest_none_iff t f).1 hn] at he
  simp at he

/-- A request equal to a target is at distance 0 of the answer. -/
theorem findNearest_target {t : RateTable} {e : DividerConfiguration} (he : e ∈ entries t) :
    findNearest t e.target = some e.target := by
  obtain ⟨r, hr⟩ := findNearest_isSome_of_mem e.target he
  have hle : distance e.target r ≤ distance e.target e.target := findNearest_distance_le hr e he
  rw [(distance_eq_zero_iff e.target e.target).2 rfl, Nat.le_zero, distance_eq_zero_iff] at hle
  rw [hr, ← hle]

/-- Settles O23: each corner case from the exact distance and the answer's minimal distance. -/
theorem nearestCornerCases : Obligations.NearestCornerCases := by
  refine ⟨distance_cast, fun t f => ?_, fun t e he => findNearest_target he, fun t r h e he => ?_,
    fun t r h e he => ?_, fun t d f hd => ?_⟩
  · rw [findNearest_none_iff, effLen, List.length_eq_zero_iff]
  · have hle := findNearest_distance_le h e he
    rwa [distance_zero_left, distance_zero_left] at hle
  · have hle := findNearest_distance_le h e he
    rw [distance_max_left, distance_max_left] at hle
    have := e.target.isLt
    omega
  · obtain ⟨r, hr⟩ := findNearest_isSome_of_mem f (e := d) (t := t) (by simp [hd])
    obtain ⟨e, he, rfl⟩ := findNearest_mem hr
    rw [hd, List.mem_singleton] at he
    rw [hr, he]

/-! ## The invariant under each update of the state

One lemma per update; its hypotheses are the guards of the Sequencer's transitions (R83). -/

section
variable {s : State}

theorem inv_record {e : Event} (h : s.Inv) (he : eventAllowed s.config e) : (record e s).Inv :=
  { h with
    events := fun x hx => by
      rcases List.mem_append.1 hx with hx | hx
      · exact h.events x hx
      · rw [List.mem_singleton.1 hx]; exact he }

theorem inv_takeStatusAnswer (h : s.Inv) : (takeStatusAnswer s).Inv := by
  unfold takeStatusAnswer
  split <;> exact { h with }

theorem inv_takeCtrlAnswer (h : s.Inv) : (takeCtrlAnswer s).Inv := by
  unfold takeCtrlAnswer
  split
  · exact h
  · split <;> exact { h with }

/-- The two registers R49 lets the block read. -/
theorem inv_memRead (r : ReadRegister) (h : s.Inv) : (memRead r s).2.Inv := by
  cases r with
  | ctrl => exact inv_record (inv_takeCtrlAnswer h) (by simp [eventAllowed])
  | status => exact inv_record (inv_takeStatusAnswer h) (by simp [eventAllowed])

theorem inv_writeCtrl {d : DividerConfiguration} (h : s.Inv) (hd : d ∈ entries s.config.table) :
    (writeCtrl (encodeControl d) s).Inv :=
  inv_record (s := { s with ctrl := encodeControl d }) { h with } (.inl ⟨rfl, d, hd, rfl⟩)

theorem inv_writeAux {a : Nat} {v : Word} (h : s.Inv) (hc : s.config.variant = .coreClock)
    (ha : s.config.auxBase = some a) (hv : v = s.config.auxDiv1Code ∨ v = s.config.auxDiv2Code) :
    (writeAux a v s).Inv :=
  inv_record (s := { s with aux := v, auxLast := some v })
    { h with auxRecord := fun w hw => by cases hw; exact ⟨hc, rfl, hv⟩ }
    (.inr ⟨hc, (auxAddr_eq s.config).trans ha, hv⟩)

theorem inv_latchConfiguration {d : DividerConfiguration} (h : s.Inv)
    (hd : chosenEntry s.config.table s.reqFreq = some d) : (latchConfiguration d s).Inv :=
  { h with entry := fun _ => hd }

theorem inv_clearTimer (h : s.Inv) : (clearTimer s).Inv :=
  { h with timer := fun _ => Nat.zero_le _ }

theorem inv_tick (h : s.Inv) (ht : s.waitTimer < waitTicks s.config) : (tick s).Inv :=
  { h with timer := fun _ => ht }

/-- The FSM may go where the latched command's path, the configuration latch and the timer allow. -/
theorem inv_goto {f : Fsm} (h : s.Inv) (hpath : onPath s.reqOp f = true)
    (hentry : holdsEntry f = true → chosenEntry s.config.table s.reqFreq = some s.cfg)
    (hpre : f = .pre → needsPre s = true) (hpost : f = .post → needsPost s = true)
    (htimer : f = .wait → s.waitTimer ≤ waitTicks s.config) : (goto f s).Inv :=
  { h with path := hpath, entry := hentry, preSide := hpre, postSide := hpost, timer := htimer }

@[simp] theorem onPath_idle (op : Op) : onPath op .idle = true := rfl

@[simp] theorem onPath_resp (op : Op) : onPath op .resp = true := by cases op <;> rfl

/-- Exactly SET_RATE passes the states that hold an entry (R82, R84). -/
theorem onPath_of_holdsEntry {op : Op} {f : Fsm} (hf : holdsEntry f = true) : onPath op f = true ↔ op = .setRate := by
  cases f
  case pre | program | wait | check | post => cases op <;> simp [onPath]
  case idle | matching | getrd | resp => simp [holdsEntry] at hf

theorem inv_acceptRequest {op : Op} {f : Freq} {dest : Fsm} (h : s.Inv) (hpath : onPath op dest = true)
    (hd : holdsEntry dest = false) : (acceptRequest op f dest s).Inv :=
  { h with
    path := hpath
    entry := fun he => by simp [hd] at he
    preSide := by rintro rfl; simp [holdsEntry] at hd
    postSide := by rintro rfl; simp [holdsEntry] at hd
    timer := by rintro rfl; simp [holdsEntry] at hd }

theorem inv_goto_idle (h : s.Inv) : (goto .idle s).Inv :=
  inv_goto h (onPath_idle _) (by simp [holdsEntry]) nofun nofun nofun

/-- From one state that holds the entry to a later one: SET_RATE's path past PRE (R83). -/
theorem inv_goto_of_holdsEntry {f : Fsm} (h : s.Inv) (hs : holdsEntry s.fsm = true) (hf : holdsEntry f = true)
    (hpre : f ≠ .pre) (hpost : f = .post → needsPost s = true)
    (htimer : f = .wait → s.waitTimer ≤ waitTicks s.config) : (goto f s).Inv :=
  inv_goto h ((onPath_of_holdsEntry hf).2 ((onPath_of_holdsEntry hs).1 h.path)) (fun _ => h.entry hs)
    (fun he => absurd he hpre) hpost htimer

theorem inv_respond {x : RspStatus} {f : Freq} (h : s.Inv) (hf : x ≠ .ok → f = 0) : (respond x f s).Inv :=
  { inv_goto (f := .resp) h (onPath_resp _) (by simp [holdsEntry]) nofun nofun nofun with errorFreq := hf }

theorem inv_respond_ok {f : Freq} (h : s.Inv) : (respond .ok f s).Inv :=
  inv_respond h (fun hne => absurd rfl hne)

theorem inv_raise (e : CommandError) (h : s.Inv) : (raise e s).Inv :=
  inv_respond h (fun _ => rfl)

theorem inv_consumeResponse (h : s.Inv) : (consumeResponse s).Inv := by
  rcases consumeResponse_cases s with ⟨-, he⟩ | ⟨-, he⟩ <;> rw [he]
  · exact inv_goto_idle h
  · exact h

/-- A constructed block in IDLE with an OK response latch, no AUX record and no history. -/
theorem inv_of_reset_values (hb : instanceExists s.config = true) (hi : s.fsm = .idle) (hr : s.rspStatus = .ok)
    (ha : s.auxLast = none) (hh : s.history = []) : s.Inv where
  built := hb
  path := by rw [hi]; exact onPath_idle _
  entry := by simp [hi, holdsEntry]
  preSide := by simp [hi]
  postSide := by simp [hi]
  timer := by simp [hi]
  auxRecord := by simp [ha]
  errorFreq := by simp [hr]
  events := by simp [hh]

theorem inv_bringUp {c : Config} (ctrl aux : Word) (hc : instanceExists c = true) : (State.bringUp c ctrl aux).Inv :=
  inv_of_reset_values hc rfl rfl rfl rfl

theorem inv_underReset (h : s.Inv) : (underReset s).Inv :=
  inv_of_reset_values h.built rfl rfl rfl rfl

/-! ## The invariant under the Sequencer's transitions -/

theorem inv_getRead (h : s.Inv) : (getRead s).Inv :=
  inv_respond_ok (inv_memRead .ctrl h)

theorem matchForRound_cases (s : State) :
    (findNearest s.config.table s.reqFreq = none ∧ matchForRound s = raise .invalidConfiguration s) ∨
      ∃ r, findNearest s.config.table s.reqFreq = some r ∧ matchForRound s = respond .ok r s := by
  cases h : findNearest s.config.table s.reqFreq <;> simp [matchForRound, h]

theorem inv_matchForRound (h : s.Inv) : (matchForRound s).Inv := by
  rcases matchForRound_cases s with ⟨-, he⟩ | ⟨r, -, he⟩ <;> rw [he]
  · exact inv_raise _ h
  · exact inv_respond_ok h

theorem matchForSet_cases (s : State) :
    (chosenEntry s.config.table s.reqFreq = none ∧ matchForSet s = raise .invalidConfiguration s) ∨
      ∃ d, chosenEntry s.config.table s.reqFreq = some d ∧
        ((needsPre s = true ∧ matchForSet s = goto .pre (latchConfiguration d s)) ∨
          (needsPre s = false ∧ matchForSet s = goto .program (latchConfiguration d s))) := by
  cases h : chosenEntry s.config.table s.reqFreq <;> cases hp : needsPre s <;> simp [matchForSet, h, hp]

theorem inv_matchForSet (h : s.Inv) (hop : s.reqOp = .setRate) : (matchForSet s).Inv := by
  rcases matchForSet_cases s with ⟨-, he⟩ | ⟨d, hd, ⟨hp, he⟩ | ⟨-, he⟩⟩ <;> rw [he]
  · exact inv_raise _ h
  · exact inv_goto (inv_latchConfiguration h hd) ((onPath_of_holdsEntry rfl).2 hop) (fun _ => hd) (fun _ => hp)
      nofun nofun
  · exact inv_goto (inv_latchConfiguration h hd) ((onPath_of_holdsEntry rfl).2 hop) (fun _ => hd) nofun nofun nofun

theorem inv_pre {a : Nat} (h : s.Inv) (hf : s.fsm = .pre) (ha : s.config.auxBase = some a) :
    (goto .program (writeAux a s.config.auxDiv2Code s)).Inv := by
  have hc := ((needsPre_iff s).1 (h.preSide hf)).1
  exact inv_goto_of_holdsEntry (inv_writeAux h hc ha (.inr rfl)) (by simp [hf, holdsEntry]) rfl nofun nofun nofun

/-- An entry SET_RATE programs is one of its table. -/
theorem chosenEntry_mem {t : RateTable} {f : Freq} {d : DividerConfiguration} (h : chosenEntry t f = some d) :
    d ∈ entries t := by
  obtain ⟨r, -, hl⟩ := Option.bind_eq_some_iff.1 h
  exact List.mem_of_find?_eq_some hl

theorem inv_programStep (h : s.Inv) (hf : s.fsm = .program) : (programStep s).Inv := by
  have hs : holdsEntry s.fsm = true := by simp [hf, holdsEntry]
  have hw := inv_writeCtrl h (chosenEntry_mem (h.entry hs))
  exact inv_goto_of_holdsEntry (inv_clearTimer hw) hs rfl nofun nofun (fun _ => Nat.zero_le _)

theorem inv_waitStep (h : s.Inv) (hf : s.fsm = .wait) : (waitStep s).Inv := by
  rcases waitStep_cases s with ⟨-, he⟩ | ⟨ht, he⟩ <;> rw [he]
  · exact inv_goto_of_holdsEntry (inv_record h trivial) (by simp [hf, holdsEntry]) rfl nofun nofun nofun
  · exact inv_tick h ht

theorem inv_checkStep (h : s.Inv) (hf : s.fsm = .check) : (checkStep s).Inv := by
  have hr := inv_memRead .status h
  rcases checkStep_cases s with ⟨e, -, he⟩ | ⟨-, hp, he⟩ | ⟨-, -, he⟩ <;> rw [he]
  · exact inv_raise e hr
  · exact inv_goto_of_holdsEntry hr (by simp [readStatus_snd, hf, holdsEntry]) rfl nofun (fun _ => hp) nofun
  · exact inv_respond_ok hr

theorem inv_post {a : Nat} (h : s.Inv) (hf : s.fsm = .post) (ha : s.config.auxBase = some a) :
    (respond .ok s.cfg.target (writeAux a s.config.auxDiv1Code s)).Inv := by
  have hc := ((needsPost_iff s).1 (h.postSide hf)).1
  exact inv_respond_ok (inv_writeAux h hc ha (.inl rfl))

end

/-! ## The invariant along every run -/

/-- A command's transition keeps the invariant when the request latch, outside IDLE, holds that command. -/
theorem exec_keeps_inv {i : Instr} {s t : State} (h : s.Inv) (hop : s.fsm ≠ .idle → s.reqOp = i.op)
    (he : exec i s = .next t) : t.Inv := by
  cases i with
  | getRate x =>
    rcases execGetRate_cases he with ⟨-, rfl⟩ | ⟨-, rfl⟩ | ⟨-, rfl⟩
    · exact inv_acceptRequest h rfl rfl
    · exact inv_getRead h
    · exact inv_consumeResponse h
  | setRate f =>
    rcases execSetRate_cases he with ⟨-, rfl⟩ | ⟨hf, rfl⟩ | ⟨hf, a, ha, rfl⟩ | ⟨hf, rfl⟩ | ⟨hf, rfl⟩ | ⟨hf, rfl⟩ |
      ⟨hf, a, ha, rfl⟩ | ⟨-, rfl⟩
    · exact inv_acceptRequest h rfl rfl
    · exact inv_matchForSet h (hop (by simp [hf]))
    · exact inv_pre h hf ha
    · exact inv_programStep h hf
    · exact inv_waitStep h hf
    · exact inv_checkStep h hf
    · exact inv_post h hf ha
    · exact inv_consumeResponse h
  | roundRate f =>
    rcases execRoundRate_cases he with ⟨-, rfl⟩ | ⟨-, rfl⟩ | ⟨-, rfl⟩
    · exact inv_acceptRequest h rfl rfl
    · exact inv_matchForRound h
    · exact inv_consumeResponse h

@[simp] theorem latchedCommand_op (s : State) : (latchedCommand s).op = s.reqOp := by
  unfold latchedCommand
  cases s.reqOp <;> rfl

theorem reqOp_of_nextWork {s : State} {i : Instr} (hw : nextWork s = .command i) (hi : s.fsm ≠ .idle) :
    s.reqOp = i.op := by
  rw [nextWork_inProgress hi, NextWork.command.injEq] at hw
  rw [← hw, latchedCommand_op]

theorem step_keeps_inv {s t : State} (h : s.Inv) (hs : step s = .next t) : t.Inv := by
  obtain ⟨-, ⟨-, rfl⟩ | ⟨-, -, rfl⟩ | ⟨-, i, hw, he⟩⟩ := step_cases hs
  · exact inv_underReset h
  · exact h
  · exact exec_keeps_inv h (reqOp_of_nextWork hw) he

/-- A move of the outside world changes a port or the PLL's coming answers, of which the invariant does not speak. -/
theorem hostMove_keeps_inv {s t : State} {m : HostMove} (h : s.Inv) (hm : hostMove m s = some t) : t.Inv := by
  cases m with
  | present op f =>
    obtain ⟨-, ht⟩ := Option.ite_none_right_eq_some.1 hm
    cases ht
    exact { h with }
  | ready b => cases hm; exact { h with }
  | reset b => cases hm; exact { h with }
  | statusWillBe w => cases hm; exact { h with }
  | ctrlWillBe w => cases hm; exact { h with }

/-- Settles O48, by induction on how the state was reached. -/
theorem reachableStatesMeetTheInvariant : Obligations.ReachableStatesMeetTheInvariant := by
  intro s hs
  induction hs with
  | bringUp c ctrl aux hc => exact inv_bringUp ctrl aux hc
  | move s t m _ hm ih => exact hostMove_keeps_inv ih hm
  | step s t _ hst ih => exact step_keeps_inv ih hst

/-! ## One block among several (R51, R111) -/

theorem stepInstance_next_iff (k : Nat) (insts insts' : List State) :
    stepInstance k insts = some (.next insts') ↔
      ∃ s t, insts[k]? = some s ∧ step s = .next t ∧ insts' = insts.set k t := by
  unfold stepInstance
  cases hk : insts[k]? with
  | none => simp
  | some s => cases hs : step s <;> simp [hs, eq_comm]

/-- Settles O60: the step writes place `k` of the list and no other. -/
theorem instancesAreIndependent : Obligations.InstancesAreIndependent := by
  intro k insts insts' h
  obtain ⟨s, t, hk, hs, rfl⟩ := (stepInstance_next_iff k insts insts').1 h
  have hlt : k < insts.length := (List.getElem?_eq_some_iff.1 hk).1
  exact ⟨List.length_set, fun j hj => List.getElem?_set_ne hj.symm, s, t, hk, hs, List.getElem?_set_self hlt⟩

end Sys2Proof.Machine
end

section
/-!
PROOFS. What one transition does to the state: the handshake, the frame of every command, the bus events the invariant
allows, the moves of the outside world, and the record of a constructed block.
-/

namespace Sys2Proof.Machine

/-! ## Which command a step runs (R33, R83) -/

/-- Settles O4: in IDLE the presented command is the next work. -/
theorem stepRunsThePresentedCommand : Obligations.StepRunsThePresentedCommand :=
  fun _ _ hb hr hi hv hd => step_of_command hb hr (nextWork_presented hi hv hd)

@[simp] theorem ofOp_op_operand (i : Instr) : Instr.ofOp i.op i.operand = i := by
  cases i <;> rfl

/-- Settles O5: outside IDLE the next work is the command of the request latch. -/
theorem stepRunsTheCommandInProgress : Obligations.StepRunsTheCommandInProgress := by
  intro s i hb hr hi hop hx
  have hl : latchedCommand s = i := by rw [latchedCommand, ← hop, ← hx, ofOp_op_operand]
  rw [step_inProgress hb hr hi, hl]

/-! ## Reset and bring-up (R38, R114) -/

theorem step_of_resetIn {s : State} (hb : instanceExists s.config = true) (hr : s.resetIn = true) :
    step s = .next (underReset s) := by
  simp [step, hb, hr]

/-- Settles O7: the reset input wins, and `underReset` writes only the block's own state. -/
theorem resetReturnsToIdleFromAnyState : Obligations.ResetReturnsToIdleFromAnyState :=
  fun s hb hr => ⟨underReset s, step_of_resetIn hb hr, rfl, rfl, rfl, rfl⟩

theorem instanceExists_fixtureCore : instanceExists Config.fixtureCore = true := by decide

/-- Settles O8: bring-up writes each field named; the reset state is that of the fixture `core`. -/
theorem resetLeavesTheStatesTheSpecGives : Obligations.ResetLeavesTheStatesTheSpecGives :=
  ⟨fun _ _ _ => ⟨rfl, rfl, rfl, rfl, rfl, rfl⟩, Config.fixtureCore, _, _, rfl, instanceExists_fixtureCore⟩

/-- Settles O47: bring-up has the reset values, from which the invariant follows. -/
theorem invariantHoldsAtReset : Obligations.InvariantHoldsAtReset :=
  ⟨fun _ ctrl aux hc => inv_bringUp ctrl aux hc, inv_bringUp _ _ instanceExists_fixtureCore⟩

/-! ## The handshake (R33, R34, R64) -/

theorem responseWord_toNat (x : RspStatus) (f : Freq) :
    (responseWord x f).toNat = 8 * f.toNat + (statusCode x).toNat := by
  have h : (responseWord x f).toNat = f.toNat <<< 3 ||| (statusCode x).toNat := BitVec.toNat_append f (statusCode x)
  rw [h, ← Nat.shiftLeft_add_eq_or_of_lt (statusCode x).isLt, Nat.shiftLeft_eq]
  omega

theorem responsePort_of_resp {s : State} (h : s.fsm = .resp) :
    responsePort s = some (responseWord s.rspStatus s.rspFreq) := by
  simp [responsePort, rspValid, h]

theorem responsePort_of_ne_resp {s : State} (h : s.fsm ≠ .resp) : responsePort s = none := by
  simp [responsePort, rspValid, h]

/-- Settles O10: each port by the FSM state, and the two tables of codes. -/
theorem portsShowTheHandshake : Obligations.PortsShowTheHandshake :=
  ⟨fun s => ⟨by simp [reqReady],
    fun h => ⟨_, responsePort_of_resp h, responseWord_toNat _ _⟩, responsePort_of_ne_resp⟩, by decide, by decide⟩

/-- Settles O9: each command's acceptance. -/
theorem acceptanceLatchesTheRequest : Obligations.AcceptanceLatchesTheRequest := by
  intro i s hf
  cases i with
  | getRate x => simp [exec, execGetRate, hf, acceptRequest, Instr.op, Instr.operand]
  | setRate f => simp [exec, execSetRate, hf, acceptRequest, Instr.op, Instr.operand]
  | roundRate f => simp [exec, execRoundRate, hf, acceptRequest, Instr.op, Instr.operand]

theorem exec_resp (i : Instr) {s : State} (hf : s.fsm = .resp) : exec i s = .next (consumeResponse s) := by
  cases i with
  | getRate x => simp [exec, execGetRate, hf]
  | setRate f => simp [exec, execSetRate, hf]
  | roundRate f => simp [exec, execRoundRate, hf]

/-- Settles O11: RESP is the return of every command. -/
theorem consumedResponseReturnsToIdle : Obligations.ConsumedResponseReturnsToIdle := by
  intro i s hf
  rw [exec_resp i hf]
  rcases consumeResponse_cases s with ⟨hr, hc⟩ | ⟨hr, hc⟩ <;> rw [hc]
  · exact ⟨fun _ => rfl, fun h => by simp [hr] at h⟩
  · exact ⟨fun h => by simp [hr] at h, fun _ => rfl⟩

theorem exec_setRate_matching (f : Freq) {s : State} (hf : s.fsm = .matching) :
    exec (.setRate f) s = .next (matchForSet s) := by
  simp [exec, execSetRate, hf]

/-- Settles O29: the matcher's answer decides between the error and the entry, the threshold between PRE and PROGRAM. -/
theorem setRateMatchLatchesTheEntry : Obligations.SetRateMatchLatchesTheEntry := by
  intro f s hf
  rw [exec_setRate_matching f hf]
  rcases matchForSet_cases s with ⟨hn, ht⟩ | ⟨e, he, ⟨hp, ht⟩ | ⟨hp, ht⟩⟩ <;> rw [ht]
  · exact ⟨fun d hd => by simp [hn] at hd, fun _ => rfl⟩
  · refine ⟨fun d hd => ?_, fun hn => by simp [he] at hn⟩
    cases he.symm.trans hd
    rw [if_pos ((needsPre_iff s).1 hp)]
    rfl
  · refine ⟨fun d hd => ?_, fun hn => by simp [he] at hn⟩
    cases he.symm.trans hd
    rw [if_neg fun h => by simp [(needsPre_iff s).2 h] at hp]
    rfl

/-! ## One transition of any command -/

/-- The transition of any command, by the FSM state it starts in (R83). -/
theorem exec_cases {i : Instr} {s t : State} (h : exec i s = .next t) :
    (s.fsm = .idle ∧ t = acceptRequest i.op i.operand t.fsm s) ∨
      (s.fsm = .matching ∧ (t = matchForSet s ∨ t = matchForRound s)) ∨
      (s.fsm = .pre ∧ ∃ a, s.config.auxBase = some a ∧ t = goto .program (writeAux a s.config.auxDiv2Code s)) ∨
      (s.fsm = .program ∧ t = programStep s) ∨
      (s.fsm = .wait ∧ t = waitStep s) ∨
      (s.fsm = .check ∧ t = checkStep s) ∨
      (s.fsm = .post ∧ ∃ a, s.config.auxBase = some a ∧
        t = respond .ok s.cfg.target (writeAux a s.config.auxDiv1Code s)) ∨
      (s.fsm = .getrd ∧ t = getRead s) ∨
      (s.fsm = .resp ∧ t = consumeResponse s) := by
  cases i with
  | getRate x =>
    rcases execGetRate_cases h with ⟨hf, rfl⟩ | ⟨hf, rfl⟩ | ⟨hf, rfl⟩ <;> simp [hf, Instr.op, Instr.operand]
  | setRate f =>
    rcases execSetRate_cases h with ⟨hf, rfl⟩ | ⟨hf, rfl⟩ | ⟨hf, a, ha, rfl⟩ | ⟨hf, rfl⟩ | ⟨hf, rfl⟩ | ⟨hf, rfl⟩ |
      ⟨hf, a, ha, rfl⟩ | ⟨hf, rfl⟩
    -- PRE and POST, at the address of AUX
    case inr.inr.inl | inr.inr.inr.inr.inr.inr.inl => simp [hf, ha]
    all_goals simp [hf, Instr.op, Instr.operand]
  | roundRate f =>
    rcases execRoundRate_cases h with ⟨hf, rfl⟩ | ⟨hf, rfl⟩ | ⟨hf, rfl⟩ <;> simp [hf, Instr.op, Instr.operand]

/-! What each transition leaves of the configuration, AUX, the history and the PLL's coming answers. -/

@[simp] theorem matchForSet_config (s : State) : (matchForSet s).config = s.config := by
  rcases matchForSet_cases s with ⟨-, h⟩ | ⟨d, -, ⟨-, h⟩ | ⟨-, h⟩⟩ <;> simp [h]
@[simp] theorem matchForSet_aux (s : State) : (matchForSet s).aux = s.aux := by
  rcases matchForSet_cases s with ⟨-, h⟩ | ⟨d, -, ⟨-, h⟩ | ⟨-, h⟩⟩ <;> simp [h]
@[simp] theorem matchForSet_history (s : State) : (matchForSet s).history = s.history := by
  rcases matchForSet_cases s with ⟨-, h⟩ | ⟨d, -, ⟨-, h⟩ | ⟨-, h⟩⟩ <;> simp [h]

/-- MATCH of ROUND_RATE is a response, whatever the matcher answers (R75). -/
theorem matchForRound_responds (s : State) : ∃ x f, matchForRound s = respond x f s := by
  rcases matchForRound_cases s with ⟨-, h⟩ | ⟨r, -, h⟩
  · exact ⟨_, _, h⟩
  · exact ⟨_, _, h⟩

@[simp] theorem matchForRound_config (s : State) : (matchForRound s).config = s.config := by
  obtain ⟨x, f, h⟩ := matchForRound_responds s; simp [h]
@[simp] theorem matchForRound_aux (s : State) : (matchForRound s).aux = s.aux := by
  obtain ⟨x, f, h⟩ := matchForRound_responds s; simp [h]
@[simp] theorem matchForRound_history (s : State) : (matchForRound s).history = s.history := by
  obtain ⟨x, f, h⟩ := matchForRound_responds s; simp [h]

@[simp] theorem programStep_config (s : State) : (programStep s).config = s.config := rfl
@[simp] theorem programStep_aux (s : State) : (programStep s).aux = s.aux := rfl
@[simp] theorem programStep_history (s : State) :
    (programStep s).history = s.history ++ [.write s.config.mainBase (encodeControl s.cfg)] := rfl

@[simp] theorem waitStep_config (s : State) : (waitStep s).config = s.config := by
  rcases waitStep_cases s with ⟨-, h⟩ | ⟨-, h⟩ <;> simp [h]
@[simp] theorem waitStep_aux (s : State) : (waitStep s).aux = s.aux := by
  rcases waitStep_cases s with ⟨-, h⟩ | ⟨-, h⟩ <;> simp [h]

/-- CHECK is its read of STATUS, but for the FSM and the response latch (R92). -/
theorem checkStep_eq (s : State) : checkStep s =
    { (memRead .status s).2 with
      fsm := (checkStep s).fsm, rspStatus := (checkStep s).rspStatus, rspFreq := (checkStep s).rspFreq } := by
  rcases checkStep_cases s with ⟨e, -, h⟩ | ⟨-, -, h⟩ | ⟨-, -, h⟩ <;> rw [h] <;> rfl

@[simp] theorem checkStep_config (s : State) : (checkStep s).config = s.config := by
  rw [checkStep_eq]; simp [readStatus_snd]
@[simp] theorem checkStep_aux (s : State) : (checkStep s).aux = s.aux := by
  rw [checkStep_eq]; simp [readStatus_snd]
@[simp] theorem checkStep_history (s : State) :
    (checkStep s).history = s.history ++ [.read (s.config.mainBase + 4) (statusAnswer s)] := by
  rw [checkStep_eq]; simp [readStatus_snd]
@[simp] theorem checkStep_statusAnswers (s : State) :
    (checkStep s).statusAnswers = (takeStatusAnswer s).statusAnswers := by
  rw [checkStep_eq]; simp [readStatus_snd]
@[simp] theorem checkStep_draws (s : State) : (checkStep s).draws = (takeStatusAnswer s).draws := by
  rw [checkStep_eq]; simp [readStatus_snd]

theorem exec_config {i : Instr} {s t : State} (h : exec i s = .next t) : t.config = s.config := by
  rcases exec_cases h with ⟨-, ht⟩ | ⟨-, ht | ht⟩ | ⟨-, a, -, ht⟩ | ⟨-, ht⟩ | ⟨-, ht⟩ | ⟨-, ht⟩ | ⟨-, a, -, ht⟩ |
    ⟨-, ht⟩ | ⟨-, ht⟩
  all_goals rw [ht]; simp [getRead_eq]

/-- Settles O49: neither reset nor any transition writes the configuration. -/
theorem configurationNeverChanges : Obligations.ConfigurationNeverChanges := by
  intro s t h
  obtain ⟨-, ⟨-, rfl⟩ | ⟨-, -, rfl⟩ | ⟨-, i, -, he⟩⟩ := step_cases h
  · exact underReset_config s
  · rfl
  · exact exec_config he

/-- Only PRE and POST write AUX (R89, R94). -/
theorem exec_aux {i : Instr} {s t : State} (h : exec i s = .next t) (hpre : s.fsm ≠ .pre) (hpost : s.fsm ≠ .post) :
    t.aux = s.aux := by
  rcases exec_cases h with ⟨-, ht⟩ | ⟨-, ht | ht⟩ | ⟨hf, -⟩ | ⟨-, ht⟩ | ⟨-, ht⟩ | ⟨-, ht⟩ | ⟨hf, -⟩ | ⟨-, ht⟩ | ⟨-, ht⟩
  -- PRE and POST, which the hypotheses leave out
  case inr.inr.inl => exact absurd hf hpre
  case inr.inr.inr.inr.inr.inr.inl => exact absurd hf hpost
  all_goals rw [ht]; simp [getRead_eq]

/-- A transition makes at most one bus access, and leaving WAIT is what `WaitDone` records (R32, R35). -/
theorem exec_history {i : Instr} {s t : State} (h : exec i s = .next t) :
    t.history = s.history ∨ ∃ e, t.history = s.history ++ [e] ∧ (e = .waitDone ↔ s.fsm = .wait) := by
  rcases exec_cases h with ⟨hf, ht⟩ | ⟨hf, ht | ht⟩ | ⟨hf, a, -, ht⟩ | ⟨hf, ht⟩ | ⟨hf, ht⟩ | ⟨hf, ht⟩ |
    ⟨hf, a, -, ht⟩ | ⟨hf, ht⟩ | ⟨hf, ht⟩
  -- WAIT, which stays or records its end
  case inr.inr.inr.inr.inl =>
    rcases waitStep_cases s with ⟨-, hw⟩ | ⟨-, hw⟩ <;> rw [ht, hw]
    · exact .inr ⟨.waitDone, rfl, by simp [hf]⟩
    · exact .inl rfl
  all_goals rw [ht]; simp [getRead_eq, hf]

/-- Settles O55: reset being released, a step is no transition or one. -/
theorem oneTransactionAStep : Obligations.OneTransactionAStep := by
  refine ⟨fun s t hr h => ?_, fun i s t h => exec_history h⟩
  obtain ⟨-, ⟨hr', -⟩ | ⟨-, -, rfl⟩ | ⟨-, i, -, he⟩⟩ := step_cases h
  · simp [hr] at hr'
  · exact .inl rfl
  · exact exec_history he

/-! ## The frame of the queries (R75, R81) -/

/-- The transitions of GET_RATE and ROUND_RATE: their acceptance and return are the same. -/
theorem exec_query_cases {i : Instr} {s t : State} (hi : i.op ≠ .setRate) (h : exec i s = .next t) :
    (s.fsm = .idle ∧ t = acceptRequest i.op i.operand t.fsm s) ∨
      (s.fsm = .getrd ∧ i.op = .getRate ∧ t = getRead s) ∨
      (s.fsm = .matching ∧ i.op = .roundRate ∧ t = matchForRound s) ∨
      (s.fsm = .resp ∧ t = consumeResponse s) := by
  cases i with
  | getRate x =>
    rcases execGetRate_cases h with ⟨hf, rfl⟩ | ⟨hf, rfl⟩ | ⟨hf, rfl⟩ <;> simp [hf, Instr.op, Instr.operand]
  | setRate f => exact absurd rfl hi
  | roundRate f =>
    rcases execRoundRate_cases h with ⟨hf, rfl⟩ | ⟨hf, rfl⟩ | ⟨hf, rfl⟩ <;> simp [hf, Instr.op, Instr.operand]

/-- Settles O21, transition by transition. -/
theorem queriesLeaveThePllAlone : Obligations.QueriesLeaveThePllAlone := by
  intro i s t hi h
  rcases exec_query_cases hi h with ⟨hf, ht⟩ | ⟨hf, hop, ht⟩ | ⟨hf, hop, ht⟩ | ⟨hf, ht⟩
  · rw [ht]; simp [hf, registerAt]
  · rw [ht, getRead_eq]; simp [hop, registerAt]
  · obtain ⟨x, f, hr⟩ := matchForRound_responds s
    rw [ht, hr]; simp [registerAt]
  · rw [ht]; simp [registerAt]

/-! ## STATUS as a draw (R93) -/

theorem statusAnswer_of_cons {s : State} {w : Word} {ws : List Word} (ha : s.statusAnswers = w :: ws) :
    statusAnswer s = w := by
  simp [statusAnswer, ha]

theorem takeStatusAnswer_of_cons {s : State} {w : Word} {ws : List Word} (ha : s.statusAnswers = w :: ws) :
    (takeStatusAnswer s).statusAnswers = ws := by
  simp [takeStatusAnswer, ha]

theorem exec_setRate_check (f : Freq) {s : State} (hf : s.fsm = .check) :
    exec (.setRate f) s = .next (checkStep s) := by
  simp [exec, execSetRate, hf]

/-- Settles O34: the first settled answer is the one read, the second the one left. -/
theorem statusReadIsADraw : Obligations.StatusReadIsADraw := by
  refine ⟨fun s w ha => ?_, fun s v w ws ha => ?_, fun f s t hf h => ?_⟩
  · have hq : ({ s with statusAnswers := s.statusAnswers ++ [w] } : State).statusAnswers = [w] := by simp [ha]
    exact ⟨_, rfl, statusAnswer_of_cons hq, takeStatusAnswer_of_cons hq⟩
  · exact ⟨statusAnswer_of_cons ha, statusAnswer_of_cons (takeStatusAnswer_of_cons ha)⟩
  · rw [exec_setRate_check f hf, Host.Outcome.next.injEq] at h
    rw [← h]
    exact ⟨checkStep_statusAnswers s, checkStep_draws s⟩

/-! ## What the invariant allows on the bus (R49) -/

/-- Settles O46: reset, a stay and every command's transition keep it. -/
theorem everyStepKeepsTheInvariant : Obligations.EveryStepKeepsTheInvariant :=
  fun _ _ h hs => step_keeps_inv h hs

section
variable {s : State} {a : Nat} {v : Word}

theorem addr_of_read_mem_history (h : s.Inv) (hm : .read a v ∈ s.history) :
    a = s.config.mainBase ∨ a = s.config.mainBase + 4 :=
  h.events _ hm

/-- A write is an entry's encoding at CTRL, or goes to a CoreClock's AUX, outside the main block (R44). -/
theorem write_mem_history_cases (h : s.Inv) (hm : .write a v ∈ s.history) :
    (a = s.config.mainBase ∧ ∃ d ∈ entries s.config.table, v = encodeControl d) ∨
      (s.config.variant = .coreClock ∧ s.config.auxBase = some a ∧
        (s.config.mainBase + 16 ≤ a ∨ a + 4 ≤ s.config.mainBase)) := by
  rcases h.events _ hm with hctrl | ⟨hc, ha, -⟩
  · exact .inl hctrl
  · rw [auxAddr_eq] at ha
    exact .inr ⟨hc, ha, mainRegion_auxRegion_disjoint h.built ha⟩

theorem auxAddr_read_not_mem_history (h : s.Inv) (ha : s.config.auxBase = some a) : .read a v ∉ s.history := by
  intro hm
  have hd := mainRegion_auxRegion_disjoint h.built ha
  have hr := addr_of_read_mem_history h hm
  omega

end

/-- Settles O52: the registers named lie apart from CTRL and STATUS in the main block, and AUX lies outside it. -/
theorem unusedRegistersAreNeverAccessed : Obligations.UnusedRegistersAreNeverAccessed := by
  intro s a v h
  simp only [registerAddr, statusAddr_eq, auxAddr_eq, Option.some.injEq]
  refine ⟨fun ha => ⟨fun hm => ?_, fun hm => ?_⟩, fun ha hm => ?_, fun ha => auxAddr_read_not_mem_history h ha.symm⟩
  · have hr := addr_of_read_mem_history h hm
    omega
  · rcases write_mem_history_cases h hm with ⟨hw, -⟩ | ⟨-, -, hw⟩ <;> omega
  · rcases write_mem_history_cases h hm with ⟨hw, -⟩ | ⟨-, -, hw⟩ <;> omega

/-- No state that meets the invariant writes AUX but a CoreClock's (R85). -/
theorem step_aux_of_ne_coreClock {s t : State} (h : s.Inv) (hv : s.config.variant ≠ .coreClock)
    (hs : step s = .next t) : t.aux = s.aux := by
  obtain ⟨-, ⟨-, rfl⟩ | ⟨-, -, rfl⟩ | ⟨-, i, -, he⟩⟩ := step_cases hs
  · rfl
  · rfl
  · exact exec_aux he (fun hf => hv ((needsPre_iff s).1 (h.preSide hf)).1)
      (fun hf => hv ((needsPost_iff s).1 (h.postSide hf)).1)

/-- Settles O53: the invariant gives AUX's record and its writes to CoreClock only, and AUX is not in the main block. -/
theorem otherVariantsNeverTouchAux : Obligations.OtherVariantsNeverTouchAux := by
  intro s h hv
  refine ⟨Option.eq_none_iff_forall_ne_some.2 fun v hl => hv (h.auxRecord v hl).1,
    fun t hs => step_aux_of_ne_coreClock h hv hs,
    fun a v ha => ⟨fun hm => ?_, auxAddr_read_not_mem_history h ha⟩⟩
  rcases write_mem_history_cases h hm with ⟨hw, -⟩ | ⟨hc, -⟩
  · have hd := mainRegion_auxRegion_disjoint h.built ha
    omega
  · exact hv hc

/-- ENCODE leaves the bits below ODIV clear (R55, R76). -/
theorem encodeControl_getLsbD_of_lt_two (d : DividerConfiguration) {i : Nat} (hi : i < 2) :
    (encodeControl d).getLsbD i = false := by
  have h4 : i < 4 := by omega
  have h9 : i < 9 := by omega
  have h20 : i < 20 := by omega
  simp [encodeControl, hi, h4, h9, h20]

/-- Bits 19:16 lie above FBDIV and below BAND (R57). -/
theorem unassignedField_encodeControl (d : DividerConfiguration) : unassignedField (encodeControl d) = 0 := by
  apply BitVec.eq_of_getLsbD_eq
  intro i hi
  have h20 : 16 + i < 20 := by omega
  have hidiv : d.idiv.getLsbD (16 + i - 4) = false := BitVec.getLsbD_of_ge _ _ (by omega)
  have hfbdiv : d.fbdiv.getLsbD (16 + i - 9) = false := BitVec.getLsbD_of_ge _ _ (by omega)
  have hodiv : d.odiv.getLsbD (16 + i - 2) = false := BitVec.getLsbD_of_ge _ _ (by omega)
  simp [unassignedField, encodeControl, h20, hidiv, hfbdiv, hodiv]

/-- Settles O54: a write of CTRL is an encoded entry. -/
theorem ctrlWritesNeverPowerDown : Obligations.CtrlWritesNeverPowerDown := by
  intro s v h hm
  rcases write_mem_history_cases h hm with ⟨-, d, -, rfl⟩ | ⟨-, -, hd⟩
  · exact ⟨encodeControl_getLsbD_of_lt_two d (by decide), encodeControl_getLsbD_of_lt_two d (by decide),
      unassignedField_encodeControl d⟩
  · omega

/-! ## The outside world (R33, R37) -/

theorem mayPresent_iff (s : State) : mayPresent s = true ↔ s.fsm = .idle ∧ s.reqValid = false := by
  simp [mayPresent, reqReady]

/-- A move writes input ports and the PLL's coming answers, and nothing else. -/
theorem hostMove_eq {m : HostMove} {s t : State} (h : hostMove m s = some t) :
    t = { s with
      resetIn := t.resetIn, reqValid := t.reqValid, reqOpIn := t.reqOpIn, reqFreqIn := t.reqFreqIn,
      rspReady := t.rspReady, statusAnswers := t.statusAnswers, ctrlAnswers := t.ctrlAnswers } := by
  cases m with
  | present op f =>
    obtain ⟨-, ht⟩ := Option.ite_none_right_eq_some.1 h
    cases ht; rfl
  | ready b => cases h; rfl
  | reset b => cases h; rfl
  | statusWillBe w => cases h; rfl
  | ctrlWillBe w => cases h; rfl

/-- Settles O56: when a request may be presented, what a move writes, and that the invariant speaks of none of it. -/
theorem hostMovesTouchOnlyThePorts : Obligations.HostMovesTouchOnlyThePorts := by
  refine ⟨fun s op f => ?_, fun s t m h => hostMove_eq h, fun s t m h hm => hostMove_keeps_inv h hm⟩
  rw [← mayPresent_iff]
  simp [hostMove]

/-! ## The record of a constructed block (R17, R36, R68) -/

/-- A Divider Configuration as a table's author writes it. -/
def writtenEntry (d : DividerConfiguration) : RawEntry :=
  ⟨d.target.toNat, d.idiv.toNat, d.fbdiv.toNat, d.odiv.toNat, d.band.toNat⟩

theorem writtenEntry_of_entryOfRaw {e : RawEntry} {d : DividerConfiguration} (h : entryOfRaw e = some d) :
    writtenEntry d = e := by
  obtain ⟨⟨ht, hi, hf, ho, hb⟩, hd⟩ := Option.ite_none_right_eq_some.1 h
  cases hd
  simp only [writtenEntry, BitVec.toNat_ofNat, Nat.mod_eq_of_lt, ht, hi, hf, ho, hb]

/-- A table read from its author's is the author's up to the sentinel (R69). -/
theorem map_writtenEntry_of_tableOfRaw (l : List RawEntry) : ∀ {t : RateTable}, tableOfRaw l = some t →
    t.map writtenEntry = l.takeWhile (fun e => e.target != 0) := by
  induction l with
  | nil => intro t h; cases h; rfl
  | cons e rest ih =>
    intro t h
    by_cases he : e.target = 0
    · simp only [tableOfRaw, if_pos he, Option.some.injEq] at h
      simp [← h, he]
    · simp only [tableOfRaw, if_neg he] at h
      split at h
      next d u hd hu =>
        cases h
        simp [he, writtenEntry_of_entryOfRaw hd, ih hu]
      next => cases h

theorem selectedTable_eq (tables : RateTables) (v : Variant) :
    selectedTable tables v = if v = .hdmiPll then tables.hdmi else tables.generic := by
  cases v <;> rfl

/-- Settles O58: construction builds the record from the inputs, and its table from the one the variant selects. -/
theorem constructedConfigurationHasAnInstance : Obligations.ConstructedConfigurationHasAnInstance := by
  intro tables others i c h
  obtain ⟨mb, t, hm, ht, hr, rfl, hc⟩ := (construct_ok_iff tables others i c).1 h
  have htable := map_writtenEntry_of_tableOfRaw _ ht
  rw [selectedTable_eq] at htable
  exact ⟨hc, rfl, hm.symm, rfl, rfl, Nat.mod_eq_of_lt hr, rfl, rfl, rfl, rfl, rfl, rfl, rfl, rfl, htable⟩

end Sys2Proof.Machine
end

section
/-!
PROOFS. SET_RATE: the frame of each of its transitions, and its whole run from a presented request to its response.
-/

namespace Sys2Proof.Machine

/-! ## The frame of SET_RATE, state by state (R83, R49) -/

/-- MATCH of SET_RATE writes the FSM and the configuration and response latches (R87). -/
theorem matchForSet_eq (s : State) : matchForSet s =
    { s with
      cfg := (matchForSet s).cfg, fsm := (matchForSet s).fsm, rspStatus := (matchForSet s).rspStatus,
      rspFreq := (matchForSet s).rspFreq } := by
  rcases matchForSet_cases s with ⟨-, h⟩ | ⟨d, -, ⟨-, h⟩ | ⟨-, h⟩⟩ <;> rw [h] <;> rfl

/-- WAIT writes the FSM, the timer and the history (R91). -/
theorem waitStep_eq (s : State) : waitStep s =
    { s with
      fsm := (waitStep s).fsm, waitTimer := (waitStep s).waitTimer, history := (waitStep s).history } := by
  rcases waitStep_cases s with ⟨-, h⟩ | ⟨-, h⟩ <;> rw [h] <;> rfl

/-- A stored register reads as before where the register stored at that address does. -/
theorem registerAt_congr {s t : State} {a : Nat} (hc : t.config = s.config)
    (hctrl : a = ctrlAddr s.config → t.ctrl = s.ctrl) (haux : auxAddr s.config = some a → t.aux = s.aux) :
    registerAt t a = registerAt s a := by
  simp only [registerAt, hc]
  split
  next h => rw [hctrl h]
  next => split
          next h => rw [haux h]
          next => rfl

/-- Only PROGRAM writes CTRL (R90). -/
theorem exec_ctrl {i : Instr} {s t : State} (h : exec i s = .next t) (hf : s.fsm ≠ .program) : t.ctrl = s.ctrl := by
  rcases exec_cases h with ⟨-, ht⟩ | ⟨-, ht | ht⟩ | ⟨-, a, -, ht⟩ | ⟨hp, -⟩ | ⟨-, ht⟩ | ⟨-, ht⟩ | ⟨-, a, -, ht⟩ |
    ⟨-, ht⟩ | ⟨-, ht⟩
  · rw [ht]; rfl
  · rw [ht, matchForSet_eq]
  · obtain ⟨x, f, hr⟩ := matchForRound_responds s
    rw [ht, hr]; rfl
  · rw [ht]; rfl
  · exact absurd hp hf
  · rw [ht, waitStep_eq]
  · rw [ht, checkStep_eq]; simp [readStatus_snd]
  · rw [ht]; rfl
  · rw [ht]; simp [getRead_eq]
  · rw [ht, consumeResponse_ctrl]

/-- Every register read by address but CTRL in PROGRAM and AUX in PRE and POST holds what it held (R49). -/
theorem exec_registerAt {i : Instr} {s t : State} (h : exec i s = .next t) (a : Nat)
    (hctrl : ¬(s.fsm = .program ∧ a = ctrlAddr s.config))
    (haux : ¬((s.fsm = .pre ∨ s.fsm = .post) ∧ auxAddr s.config = some a)) : registerAt t a = registerAt s a :=
  registerAt_congr (exec_config h) (fun ha => exec_ctrl h fun hf => hctrl ⟨hf, ha⟩)
    (fun ha => exec_aux h (fun hf => haux ⟨.inl hf, ha⟩) (fun hf => haux ⟨.inr hf, ha⟩))

/-- Settles O36: each state's transition, written out, against the clauses that name the state. -/
theorem setRateFrame : Obligations.SetRateFrame := by
  intro f s t h
  have hregs := exec_registerAt h
  rcases execSetRate_cases h with ⟨hf, rfl⟩ | ⟨hf, rfl⟩ | ⟨hf, a, -, rfl⟩ | ⟨hf, rfl⟩ | ⟨hf, rfl⟩ | ⟨hf, rfl⟩ |
    ⟨hf, a, -, rfl⟩ | ⟨hf, rfl⟩
  · simpa [hf] using hregs
  · rw [matchForSet_eq] at hregs ⊢; simpa [hf] using hregs
  · simpa [hf] using hregs
  · simpa [hf, programStep] using hregs
  · rw [waitStep_eq] at hregs ⊢; simpa [hf] using hregs
  · rw [checkStep_eq] at hregs ⊢; simpa [hf, readStatus_snd] using hregs
  · simpa [hf] using hregs
  · simpa [hf] using hregs

/-! ## SET_RATE, one step at a time -/

/-- A built block out of reset, SET_RATE in its request latch. -/
structure SettingRate (s : State) : Prop where
  built : instanceExists s.config = true
  noReset : s.resetIn = false
  op : s.reqOp = .setRate

theorem decode_setRate (f : Freq) : decode (commandWord 1 f) = .ok (.setRate f) := by
  simp [decode, decodeOp, Instr.ofOp]

/-- A presented SET_RATE is accepted (R33, R86). -/
theorem step_of_presented {s : State} {f : Freq} (h : Presented s 1 f) :
    step s = .next (acceptRequest .setRate f .matching s) := by
  have hd : decode (commandWord s.reqOpIn s.reqFreqIn) = .ok (.setRate f) := by rw [h.op, h.freq, decode_setRate]
  rw [step_of_command h.built h.noReset (nextWork_presented h.idle h.valid hd)]
  simp [exec, execSetRate, h.idle]

theorem settingRate_of_presented {s : State} {f : Freq} (h : Presented s 1 f) :
    SettingRate (acceptRequest .setRate f .matching s) :=
  ⟨h.built, h.noReset, rfl⟩

section
variable {s : State} (h : SettingRate s)
include h

theorem step_settingRate (hi : s.fsm ≠ .idle) : step s = exec (.setRate s.reqFreq) s := by
  rw [step_inProgress h.built h.noReset hi, latchedCommand, h.op]; rfl

theorem step_matching (hf : s.fsm = .matching) : step s = .next (matchForSet s) := by
  rw [step_settingRate h (by simp [hf]), exec_setRate_matching _ hf]

theorem step_pre {a : Nat} (hf : s.fsm = .pre) (ha : s.config.auxBase = some a) :
    step s = .next (goto .program (writeAux a s.config.auxDiv2Code s)) := by
  rw [step_settingRate h (by simp [hf]), ← preStep_eq ha]
  simp [exec, execSetRate, hf]

theorem step_program (hf : s.fsm = .program) : step s = .next (programStep s) := by
  rw [step_settingRate h (by simp [hf])]
  simp [exec, execSetRate, hf]

theorem step_wait (hf : s.fsm = .wait) : step s = .next (waitStep s) := by
  rw [step_settingRate h (by simp [hf])]
  simp [exec, execSetRate, hf]

theorem step_check (hf : s.fsm = .check) : step s = .next (checkStep s) := by
  rw [step_settingRate h (by simp [hf]), exec_setRate_check _ hf]

theorem step_post {a : Nat} (hf : s.fsm = .post) (ha : s.config.auxBase = some a) :
    step s = .next (respond .ok s.cfg.target (writeAux a s.config.auxDiv1Code s)) := by
  rw [step_settingRate h (by simp [hf]), ← postStep_eq ha]
  simp [exec, execSetRate, hf]

/-- WAIT's ticks, one a step, up to its end (R91; notes/assumptions/9.md). -/
theorem run_wait_ticks (hf : s.fsm = .wait) (k : Nat) (hk : s.waitTimer + k ≤ waitTicks s.config) :
    run k s = .next { s with waitTimer := s.waitTimer + k } := by
  induction k with
  | zero => rfl
  | succ k ih =>
    rw [run_add 1 (ih (by omega))]
    have hw : SettingRate { s with waitTimer := s.waitTimer + k } := { h with }
    rw [run_one (step_wait hw hf)]
    rcases waitStep_cases { s with waitTimer := s.waitTimer + k } with ⟨ht, -⟩ | ⟨-, he⟩
    · dsimp only at ht; omega
    · rw [he]; rfl

/-- WAIT entered with a cleared timer lasts its ticks and one step more (R91). -/
theorem run_wait (hf : s.fsm = .wait) (ht : s.waitTimer = 0) : run (waitTicks s.config + 1) s =
    .next (goto .check (record .waitDone { s with waitTimer := waitTicks s.config })) := by
  rw [run_add 1 (run_wait_ticks h hf (waitTicks s.config) (by omega)), ht, Nat.zero_add]
  have hw : SettingRate { s with waitTimer := waitTicks s.config } := { h with }
  rw [run_one (step_wait hw hf)]
  rcases waitStep_cases { s with waitTimer := waitTicks s.config } with ⟨-, he⟩ | ⟨hlt, -⟩
  · rw [he]
  · exact absurd hlt (lt_irrefl _)

end

/-! ## SET_RATE on an empty table (R87) -/

theorem chosenEntry_none_of_no_entries {t : RateTable} (f : Freq) (h : entries t = []) : chosenEntry t f = none := by
  rw [chosenEntry, (findNearest_none_iff t f).2 h]; rfl

theorem matchForSet_of_none {s : State} (h : chosenEntry s.config.table s.reqFreq = none) :
    matchForSet s = raise .invalidConfiguration s := by
  simp [matchForSet, h]

/-- Settles O41: acceptance, then MATCH's error. -/
theorem setRateOnAnEmptyTableTouchesNothing : Obligations.SetRateOnAnEmptyTableTouchesNothing := by
  intro s f h he
  rw [run_succ 1 (step_of_presented h), run_one (step_matching (settingRate_of_presented h) rfl),
    matchForSet_of_none (chosenEntry_none_of_no_entries f he)]
  rfl

/-! ## SET_RATE, whole (R84, R98) -/

@[simp] theorem takeStatusAnswer_statusAnswers (s : State) :
    (takeStatusAnswer s).statusAnswers = s.statusAnswers.tail := by
  unfold takeStatusAnswer; split <;> simp [*]

@[simp] theorem takeStatusAnswer_draws (s : State) :
    (takeStatusAnswer s).draws = if s.statusAnswers = [] then s.draws + 1 else s.draws := by
  unfold takeStatusAnswer; split <;> simp [*]

/-- A STATUS read takes the first settled answer, or one count of the draws (R93). -/
theorem takeStatusAnswer_eq (s : State) : takeStatusAnswer s =
    { s with statusAnswers := (takeStatusAnswer s).statusAnswers, draws := (takeStatusAnswer s).draws } := by
  unfold takeStatusAnswer; split <;> rfl

/-- The AUX write of a code where one is to be made. -/
def writeAuxCode (v : Option Word) (s : State) : State :=
  { s with
    aux := v.getD s.aux, auxLast := v.or s.auxLast, history := s.history ++ v.toList.flatMap (auxWrite s.config) }

theorem writeAuxCode_none (s : State) : writeAuxCode none s = s := by
  simp [writeAuxCode]

theorem writeAuxCode_some {s : State} {a : Nat} (v : Word) (h : s.config.auxBase = some a) :
    writeAuxCode (some v) s = writeAux a v s := by
  simp [writeAuxCode, writeAux, record, auxWrite, h]

/-- The code PRE writes to AUX in a SET_RATE of `f`, where it is taken (R89). -/
def preCode (c : Config) (f : Freq) : Option Word := if setRatePre c f then some c.auxDiv2Code else none

/-- The code POST writes to AUX in a SET_RATE of `f` that read STATUS word `w`, where it is taken (R94). -/
def postCode (c : Config) (f : Freq) (w : Word) : Option Word :=
  if setRatePost c f w then some c.auxDiv1Code else none

theorem setRatePre_iff (c : Config) (f : Freq) :
    setRatePre c f = true ↔ c.variant = .coreClock ∧ c.thresholdHz.toNat < f.toNat := by
  simp [setRatePre, aboveThreshold]

theorem statusError_none_iff (w : Word) : statusError w = none ↔ w.getLsbD 0 = true ∧ w.getLsbD 1 = false := by
  rcases statusError_cases w with ⟨hl, h⟩ | ⟨hl, he, h⟩ | ⟨hl, he, h⟩ <;> simp_all [lockBit, errBit]

theorem setRatePost_iff (c : Config) (f : Freq) (w : Word) : setRatePost c f w = true ↔
    c.variant = .coreClock ∧ f.toNat ≤ c.thresholdHz.toNat ∧ w.getLsbD 0 = true ∧ w.getLsbD 1 = false := by
  simp [setRatePost, aboveThreshold, statusError_none_iff, and_assoc]

/-- The two AUX writes lie on the two sides of the threshold (R88). -/
theorem not_setRatePost_of_setRatePre {c : Config} {f : Freq} {w : Word} :
    setRatePre c f = true → ¬setRatePost c f w = true := by
  rw [setRatePre_iff, setRatePost_iff]
  omega

theorem setRateAux_eq_or (c : Config) (f : Freq) (w : Word) : setRateAux c f w = (postCode c f w).or (preCode c f) := by
  unfold setRateAux preCode postCode
  cases hp : setRatePre c f with
  | true => rw [if_neg (not_setRatePost_of_setRatePre hp)]; rfl
  | false => simp

/-- The events of a SET_RATE, phase by phase, after a history `h`. -/
theorem append_setRateEvents (h : List Event) (c : Config) (f : Freq) (d : DividerConfiguration) (w : Word) :
    h ++ setRateEvents c f d w =
      h ++ (preCode c f).toList.flatMap (auxWrite c) ++ [Event.write (ctrlAddr c) (encodeControl d)] ++
        [Event.waitDone] ++ [Event.read (statusAddr c) w] ++ (postCode c f w).toList.flatMap (auxWrite c) := by
  unfold setRateEvents preCode postCode
  cases setRatePre c f <;> cases setRatePost c f w <;> simp

/-- What SET_RATE of `f` has done before PROGRAM: the request and entry `d` latched, and divide-by-2 where PRE is
taken. -/
def setRatePrepared (f : Freq) (d : DividerConfiguration) (s : State) : State :=
  goto .program (writeAuxCode (preCode s.config f) (latchConfiguration d (acceptRequest .setRate f .matching s)))

/-- What PROGRAM and the whole of WAIT do. -/
def programmedAndWaited (s : State) : State :=
  goto .check (record .waitDone { programStep s with waitTimer := waitTicks s.config })

/-- What CHECK does and, where it is taken, POST. -/
def checkedAndAnswered (s : State) : State :=
  respond (setRateResponse s.cfg (statusAnswer s)).1 (setRateResponse s.cfg (statusAnswer s)).2
    (writeAuxCode (postCode s.config s.reqFreq (statusAnswer s)) (memRead .status s).2)

theorem matchForSet_of_some {s : State} {d : DividerConfiguration}
    (h : chosenEntry s.config.table s.reqFreq = some d) :
    matchForSet s = goto (if needsPre s then .pre else .program) (latchConfiguration d s) := by
  simp [matchForSet, h]

/-- Acceptance, MATCH and, above a CoreClock's threshold, PRE (R87, R89). -/
theorem run_to_program {s : State} {f : Freq} {d : DividerConfiguration} (h : Presented s 1 f)
    (hd : chosenEntry s.config.table f = some d) :
    run (2 + if setRatePre s.config f then 1 else 0) s = .next (setRatePrepared f d s) := by
  have hs := settingRate_of_presented h
  have hm : run 2 s = .next (goto (if setRatePre s.config f then .pre else .program)
      (latchConfiguration d (acceptRequest .setRate f .matching s))) := by
    rw [run_succ 1 (step_of_presented h), run_one (step_matching hs rfl), matchForSet_of_some hd]; rfl
  rw [run_add _ hm, setRatePrepared, preCode]
  cases hp : setRatePre s.config f with
  | false => simp [writeAuxCode_none]
  | true =>
    obtain ⟨b, hb⟩ := auxBase_of_coreClock h.built ((setRatePre_iff _ _).1 hp).1
    have hpre : SettingRate (goto .pre (latchConfiguration d (acceptRequest .setRate f .matching s))) := { hs with }
    have hb' : (latchConfiguration d (acceptRequest .setRate f .matching s)).config.auxBase = some b := hb
    simp only [if_true, run_one (step_pre hpre rfl hb), writeAuxCode_some _ hb']
    rfl

/-- PROGRAM and WAIT (R90, R91). -/
theorem run_program_to_check {s : State} (h : SettingRate s) (hf : s.fsm = .program) :
    run (waitTicks s.config + 2) s = .next (programmedAndWaited s) := by
  rw [run_succ _ (step_program h hf)]
  exact run_wait (s := programStep s) { h with } rfl rfl

theorem settingRate_checkStep {s : State} (h : SettingRate s) : SettingRate (checkStep s) := by
  rw [checkStep_eq, readStatus_snd, takeStatusAnswer_eq]
  exact { h with }

/-- POST is taken after a passed check alone (R92, R94). -/
theorem setRatePost_eq (s : State) : setRatePost s.config s.reqFreq (statusAnswer s) =
    (needsPost (memRead .status s).2 && (statusError (statusAnswer s)).isNone) := by
  simp [setRatePost, needsPost, readStatus_snd]

/-- CHECK and, after a passed check at or below a CoreClock's threshold, POST (R92, R94). -/
theorem run_check_to_resp {s : State} (h : SettingRate s) (hf : s.fsm = .check) :
    run (1 + if setRatePost s.config s.reqFreq (statusAnswer s) then 1 else 0) s = .next (checkedAndAnswered s) := by
  rw [run_add _ (run_one (step_check h hf)), checkedAndAnswered, postCode, setRatePost_eq, setRateResponse]
  rcases checkStep_cases s with ⟨e, he, ht⟩ | ⟨he, hp, ht⟩ | ⟨he, hp, ht⟩
  · simp [he, ht, writeAuxCode_none, raise]
  · have hs := settingRate_checkStep h
    obtain ⟨b, hb⟩ := auxBase_of_coreClock hs.built (by simpa [ht] using ((needsPost_iff _).1 hp).1)
    rw [ht] at hs hb ⊢
    have hm : (memRead .status s).2.cfg = s.cfg ∧ (memRead .status s).2.config = s.config := by simp [readStatus_snd]
    have hb' : (memRead .status s).2.config.auxBase = some b := hb
    simp only [hp, he, Option.isNone_none, Bool.and_self, if_true, run_one (step_post hs rfl hb'),
      writeAuxCode_some _ hb', goto_cfg, goto_config, hm]
    rfl
  · simp [he, hp, ht, writeAuxCode_none]

/-- The state in which SET_RATE of `f`, having programmed entry `d`, answers. -/
def setRateAnswered (f : Freq) (d : DividerConfiguration) (s : State) : State :=
  { s with
    fsm := .resp, reqOp := .setRate, reqFreq := f, reqValid := false, cfg := d
    rspStatus := (setRateResponse d (statusAnswer s)).1, rspFreq := (setRateResponse d (statusAnswer s)).2
    waitTimer := waitTicks s.config, ctrl := encodeControl d
    aux := (setRateAux s.config f (statusAnswer s)).getD s.aux
    auxLast := (setRateAux s.config f (statusAnswer s)).or s.auxLast
    history := s.history ++ setRateEvents s.config f d (statusAnswer s)
    statusAnswers := (takeStatusAnswer s).statusAnswers, draws := (takeStatusAnswer s).draws }

/-- The three phases of the run, field by field. -/
theorem phases_eq_setRateAnswered (f : Freq) (d : DividerConfiguration) (s : State) :
    checkedAndAnswered (programmedAndWaited (setRatePrepared f d s)) = setRateAnswered f d s := by
  rw [setRateAnswered, setRateAux_eq_or, Option.getD_or, Option.or_assoc, append_setRateEvents, checkedAndAnswered,
    readStatus_snd, takeStatusAnswer_eq]
  simp only [takeStatusAnswer_statusAnswers, takeStatusAnswer_draws]
  rfl

/-- The whole run of a presented SET_RATE that finds entry `d` (R84). -/
theorem run_setRate {s : State} {f : Freq} {d : DividerConfiguration} (h : Presented s 1 f)
    (hd : chosenEntry s.config.table f = some d) :
    run (setRateSteps s.config f (statusAnswer s)) s = .next (setRateAnswered f d s) := by
  have hprogram : SettingRate (setRatePrepared f d s) := { settingRate_of_presented h with }
  have hcheck : SettingRate (programmedAndWaited (setRatePrepared f d s)) := { hprogram with }
  have hsteps : setRateSteps s.config f (statusAnswer s) =
      (2 + if setRatePre s.config f then 1 else 0) + ((waitTicks s.config + 2) +
        (1 + if setRatePost s.config f (statusAnswer s) then 1 else 0)) := by
    rw [setRateSteps]; omega
  rw [hsteps, run_add _ (run_to_program h hd), ← phases_eq_setRateAnswered]
  exact (run_add _ (run_program_to_check hprogram rfl)).trans (run_check_to_resp hcheck rfl)

/-- Settles O40: each clause is a field of the state the run ends in. -/
theorem setRateRunsItsWholeSequence : Obligations.SetRateRunsItsWholeSequence :=
  fun s f d h hd => ⟨setRateAnswered f d s, run_setRate h hd, rfl, rfl, rfl, rfl, rfl, rfl, rfl, rfl, rfl, rfl,
    h.noReset, rfl, rfl⟩

/-! ## The AUX writes around the reprogramming (R98) -/

section
variable {c : Config} {f : Freq} (d : DividerConfiguration) {w : Word}

theorem setRateEvents_of_neither (hp : ¬setRatePre c f = true) (hq : ¬setRatePost c f w = true) :
    setRateEvents c f d w =
      [.write c.mainBase (encodeControl d), .waitDone, .read (c.mainBase + 4) w] := by
  simp [setRateEvents, hp, hq]

theorem setRateEvents_of_pre {b : Nat} (hb : c.auxBase = some b) (hp : setRatePre c f = true) :
    setRateEvents c f d w =
      [.write b c.auxDiv2Code, .write c.mainBase (encodeControl d), .waitDone, .read (c.mainBase + 4) w] := by
  have hq : ¬setRatePost c f w = true := not_setRatePost_of_setRatePre hp
  simp [setRateEvents, hp, hq, auxWrite, hb]

theorem setRateEvents_of_post {b : Nat} (hb : c.auxBase = some b) (hq : setRatePost c f w = true) :
    setRateEvents c f d w =
      [.write c.mainBase (encodeControl d), .waitDone, .read (c.mainBase + 4) w, .write b c.auxDiv1Code] := by
  have hp : ¬setRatePre c f = true := fun hp => not_setRatePost_of_setRatePre hp hq
  simp [setRateEvents, hp, hq, auxWrite, hb]

end

/-- Settles O42: the variant, the side of the threshold and the STATUS word select the events. -/
theorem auxWritesFrameTheReprogramming : Obligations.AuxWritesFrameTheReprogramming := by
  intro s f d h hd
  have hpre := setRatePre_iff s.config f
  have hpost := setRatePost_iff s.config f (statusAnswer s)
  refine ⟨setRateAnswered f d s, run_setRate h hd, rfl, fun b hb => ?_, fun hv => ?_, fun hv => ?_⟩
  · have := mainRegion_auxRegion_disjoint h.built hb
    omega
  · obtain ⟨b, hb⟩ := auxBase_of_coreClock h.built hv
    refine ⟨b, hb, fun hf => ?_, fun hf hl he => ?_, fun hf hs => ?_⟩ <;> refine congrArg (s.history ++ ·) ?_
    · exact setRateEvents_of_pre d hb (hpre.2 ⟨hv, hf⟩)
    · exact setRateEvents_of_post d hb (hpost.2 ⟨hv, hf, hl, he⟩)
    · exact setRateEvents_of_neither d (fun hp => hf.not_gt (hpre.1 hp).2) (fun hq => hs (hpost.1 hq).2.2)
  · exact congrArg (s.history ++ ·)
      (setRateEvents_of_neither d (fun hp => hv (hpre.1 hp).1) (fun hq => hv (hpost.1 hq).1))

end Sys2Proof.Machine
end

section
/-!
PROOFS. Construction: each check of R115 as arithmetic on the inputs, and the blocks of one system.
-/

namespace Sys2Proof.Machine

/-! ## The Rate Table check (R61, R69, R70) -/

/-- Every field of a written entry is in its range (R61, R70 item a). -/
def fieldsFit (e : RawEntry) : Prop :=
  e.target < 2 ^ 64 ∧ e.idiv ≤ 31 ∧ e.fbdiv ≤ 127 ∧ e.odiv ≤ 3 ∧ e.band ≤ 4095

theorem entryOfRaw_isSome_iff (e : RawEntry) : (entryOfRaw e).isSome = true ↔ fieldsFit e := by
  unfold entryOfRaw fieldsFit
  rw [Option.isSome_ite]
  omega

theorem tableOfRaw_isSome_iff (l : List RawEntry) :
    (tableOfRaw l).isSome = true ↔ ∀ e ∈ l.takeWhile (fun e => e.target != 0), fieldsFit e := by
  induction l with
  | nil => simp [tableOfRaw]
  | cons e rest ih =>
    by_cases he : e.target = 0
    · simp [tableOfRaw, he]
    · have hcons : (tableOfRaw (e :: rest)).isSome = ((entryOfRaw e).isSome && (tableOfRaw rest).isSome) := by
        simp only [tableOfRaw, if_neg he]
        cases entryOfRaw e <;> cases tableOfRaw rest <;> rfl
      rw [hcons, Bool.and_eq_true, entryOfRaw_isSome_iff, ih]
      simp [he]

/-- A table read from its author's holds no sentinel, so that all of it are its entries (R69). -/
theorem entries_of_tableOfRaw {l : List RawEntry} {t : RateTable} (h : tableOfRaw l = some t) : entries t = t := by
  refine List.takeWhile_eq_self_iff.2 fun d hd => ?_
  have hmem : writtenEntry d ∈ l.takeWhile (fun e => e.target != 0) :=
    map_writtenEntry_of_tableOfRaw l h ▸ List.mem_map_of_mem hd
  have hne := List.mem_takeWhile_imp hmem
  simpa [writtenEntry, ← BitVec.toNat_inj] using hne

/-- Two targets in range are the same words exactly when they are the same numbers (R70 item b). -/
theorem distinctTargets_of_tableOfRaw {l : List RawEntry} {t : RateTable} (h : tableOfRaw l = some t) :
    distinctTargets t = true ↔ ((l.takeWhile (fun e => e.target != 0)).map (fun e => e.target)).Nodup := by
  have hmap : (l.takeWhile (fun e => e.target != 0)).map (fun e => e.target) =
      (t.map (fun d => d.target)).map BitVec.toNat := by
    rw [← map_writtenEntry_of_tableOfRaw l h, List.map_map, List.map_map]; rfl
  rw [hmap, List.nodup_map_iff (fun _ _ => BitVec.eq_of_toNat_eq), distinctTargets, entries_of_tableOfRaw h,
    decide_eq_true_iff]

/-! ## The bus checks (R43, R44, R46) -/

theorem auxPresent_iff (c : Config) : auxPresent c = true ↔ (c.variant = .coreClock → c.auxBase ≠ none) := by
  cases h : c.auxBase <;> simp [auxPresent, h]

theorem basesAligned_iff (c : Config) :
    basesAligned c = true ↔ c.mainBase % 4 = 0 ∧ ∀ b, c.auxBase = some b → b % 4 = 0 := by
  cases h : c.auxBase <;> simp [basesAligned, h]

theorem addressesFit_iff (c : Config) : addressesFit c = true ↔
    c.mainBase + 0x00F < 2 ^ c.addrWidth ∧ ∀ b, c.auxBase = some b → b + 0x003 < 2 ^ c.addrWidth := by
  cases h : c.auxBase <;> simp [addressesFit, h]

/-- Two regions share no address when one ends before the other begins, read from the left one. -/
theorem regionsOverlap_false_iff_before (r q : Region) :
    regionsOverlap r q = false ↔ r.base + r.size ≤ q.base ∨ q.base + q.size ≤ r.base :=
  (regionsOverlap_false_iff r q).trans or_comm

theorem regionsDisjoint_iff (c : Config) : regionsDisjoint c = true ↔
    (∀ b, c.auxBase = some b → c.mainBase + 16 ≤ b ∨ b + 4 ≤ c.mainBase) ∧
      (∀ r ∈ c.otherRegions, c.mainBase + 16 ≤ r.base ∨ r.base + r.size ≤ c.mainBase) ∧
        ∀ b, c.auxBase = some b → ∀ r ∈ c.otherRegions, b + 4 ≤ r.base ∨ r.base + r.size ≤ b := by
  simp [regionsDisjoint, instanceRegions, auxRegions, mainRegion, regionsOverlap_false_iff_before]

/-- Settles O57: the inputs' own checks by `construct_ok_iff`, those of the built configuration one by one. -/
theorem constructionChecksAllEightItems : Obligations.ConstructionChecksAllEightItems := by
  intro tables others i
  simp only [construct_ok_iff, instanceExists_iff, constructionFailure_none_iff, auxPresent_iff, basesAligned_iff,
    addressesFit_iff, regionsDisjoint_iff]
  have htable := tableOfRaw_isSome_iff (selectedTable tables i.variant)
  constructor
  · rintro ⟨c, m, t, hm, ht, hr, rfl, hx, ⟨ham, hab⟩, ⟨hwm, hwb⟩, hd, hn, hmb, hmo, hbo⟩
    exact ⟨hx, ⟨m, hm, ham, hwm, hmb, hmo⟩, fun b hb => ⟨hab b hb, hwb b hb, hbo b hb⟩,
      ⟨htable.1 (by rw [ht]; rfl), (distinctTargets_of_tableOfRaw ht).1 hd⟩, hn, hr⟩
  · rintro ⟨hx, ⟨m, hm, ham, hwm, hmb, hmo⟩, haux, ⟨hfit, hnodup⟩, hn, hr⟩
    obtain ⟨t, ht⟩ := Option.isSome_iff_exists.1 (htable.2 hfit)
    exact ⟨_, m, t, hm, ht, hr, rfl, hx, ⟨ham, fun b hb => (haux b hb).1⟩, ⟨hwm, fun b hb => (haux b hb).2.1⟩,
      (distinctTargets_of_tableOfRaw ht).2 hnodup, hn, hmb, hmo, fun b hb => (haux b hb).2.2⟩

/-! ## The blocks of one system (R44, R68, R111) -/

theorem regionsOverlap_comm (r q : Region) : regionsOverlap r q = regionsOverlap q r :=
  Bool.and_comm _ _

theorem regionsOverlap_iff (r q : Region) :
    regionsOverlap r q = true ↔ r.base < q.base + q.size ∧ q.base < r.base + r.size := by
  simp [regionsOverlap]

/-- The claims of a set are apart when those of any two places of it are. -/
theorem claimsApart_iff_getElem? (tables : RateTables) (is : List ConstructionInputs) : claimsApart tables is = true ↔
    ∀ (j k : Nat) (a b : ConstructionInputs), j ≠ k → is[j]? = some a → is[k]? = some b →
      ∀ r ∈ claimedRegions tables a, ∀ q ∈ claimedRegions tables b, regionsOverlap r q = false := by
  rw [claimsApart_iff, List.pairwise_iff_getElem]
  constructor
  · intro h j k a b hjk ha hb r hr q hq
    obtain ⟨hj, rfl⟩ := List.getElem?_eq_some_iff.1 ha
    obtain ⟨hk, rfl⟩ := List.getElem?_eq_some_iff.1 hb
    rcases Nat.lt_or_gt_of_ne hjk with hlt | hgt
    · exact h j k hj hk hlt r hr q hq
    · rw [regionsOverlap_comm]
      exact h k j hk hj hgt q hq r hr
  · intro h j k hj hk hlt
    exact h j k _ _ hlt.ne (List.getElem?_eq_getElem hj) (List.getElem?_eq_getElem hk)

theorem constructAll_error_iff (tables : RateTables) (is : List ConstructionInputs) :
    (∃ e, constructAll tables is = .error e) ↔ ¬claimsApart tables is = true := by
  unfold constructAll
  split <;> simp [*]

/-- The regions of a block built beside others are those its inputs claim. -/
theorem claimedRegions_of_construct_beside {tables : RateTables} {others : List Region} {i : ConstructionInputs}
    {c : Config} (h : construct tables others i = .ok c) : claimedRegions tables i = instanceRegions c := by
  obtain ⟨d, hd, -⟩ := (construct_beside_iff tables others i).1 ⟨c, h⟩
  rw [claimedRegions_of_ok hd, (construct_beside_same hd h).1]

/-- The table of a block is the one its variant selects (R68). -/
theorem tableOfRaw_selectedTable_of_construct {tables : RateTables} {others : List Region} {i : ConstructionInputs}
    {c : Config} (h : construct tables others i = .ok c) :
    tableOfRaw (selectedTable tables c.variant) = some c.table := by
  obtain ⟨mb, t, -, ht, -, rfl, -⟩ := (construct_ok_iff _ _ _ _).1 h
  exact ht

theorem constructFrom_eq_ok {tables : RateTables} {is : List ConstructionInputs} {k : Nat} {c : Config}
    (h : (constructFrom tables [] is)[k]? = some (.ok c)) :
    ∃ i others, is[k]? = some i ∧ construct tables others i = .ok c := by
  rw [constructFrom_getElem?] at h
  obtain ⟨i, hi, hc⟩ := Option.map_eq_some_iff.1 h
  exact ⟨i, _, hi, hc⟩

/-- A region claimed before or after place `k` is claimed at another place. -/
theorem exists_of_mem_flatMap_take_drop {α β : Type} {g : α → List β} {l : List α} {k : Nat} {o : β}
    (h : o ∈ (l.take k).flatMap g ++ (l.drop (k + 1)).flatMap g) : ∃ j a, k ≠ j ∧ l[j]? = some a ∧ o ∈ g a := by
  rcases List.mem_append.1 h with h | h <;> obtain ⟨a, ha, ho⟩ := List.mem_flatMap.1 h <;>
    obtain ⟨j, hj⟩ := List.mem_iff_getElem?.1 ha
  · rw [List.getElem?_take, Option.ite_none_right_eq_some] at hj
    exact ⟨j, a, hj.1.ne', hj.2, ho⟩
  · rw [List.getElem?_drop] at hj
    exact ⟨k + 1 + j, a, by omega, hj, ho⟩

/-- Where the claims are apart, the inputs at place `k` give a block exactly when they do alone. -/
theorem constructFrom_ok_iff {tables : RateTables} {is : List ConstructionInputs} (h : claimsApart tables is = true)
    {k : Nat} {i : ConstructionInputs} (hi : is[k]? = some i) :
    (∃ c, (constructFrom tables [] is)[k]? = some (.ok c)) ↔ ∃ c, construct tables [] i = .ok c := by
  rw [constructFrom_getElem?, hi]
  simp only [Option.map_some, Option.some.injEq, List.nil_append]
  refine (construct_beside_iff _ _ _).trans (exists_congr fun c => and_iff_left_of_imp fun hc r hr o ho => ?_)
  obtain ⟨j, b, hkj, hb, hob⟩ := exists_of_mem_flatMap_take_drop ho
  exact (claimsApart_iff_getElem? tables is).1 h k j i b hkj hi hb r (claimedRegions_of_ok hc ▸ hr) o hob

/-- Settles O59: the set is refused by its claims, and built place by place. -/
theorem builtInstancesShareNoAddress : Obligations.BuiltInstancesShareNoAddress := by
  intro tables is
  have hapart := claimsApart_iff_getElem? tables is
  refine ⟨?_, fun rs h => ?_⟩
  · rw [constructAll_error_iff, hapart]
    constructor
    · intro hn
      push Not at hn
      obtain ⟨j, k, a, b, hjk, ha, hb, r, hr, q, hq, ho⟩ := hn
      obtain ⟨c, hc, hrc⟩ := mem_claimedRegions_iff.1 hr
      obtain ⟨d, hd, hqd⟩ := mem_claimedRegions_iff.1 hq
      rw [Ne, Bool.not_eq_false, regionsOverlap_iff] at ho
      exact ⟨j, k, a, b, c, d, hjk, ha, hb, hc, hd, r, hrc, q, hqd, ho.symm⟩
    · rintro ⟨j, k, a, b, c, d, hjk, ha, hb, hc, hd, r, hr, q, hq, ho⟩ hn
      have hf := hn j k a b hjk ha hb r (claimedRegions_of_ok hc ▸ hr) q (claimedRegions_of_ok hd ▸ hq)
      rw [(regionsOverlap_iff r q).2 ho.symm] at hf
      cases hf
  · obtain ⟨hap, rfl⟩ := (constructAll_ok_iff tables is rs).1 h
    refine ⟨constructFrom_length tables is [], fun k i hi => constructFrom_ok_iff hap hi, fun j k c d hjk hc hd => ?_⟩
    obtain ⟨a, _, ha, hca⟩ := constructFrom_eq_ok hc
    obtain ⟨b, _, hb, hdb⟩ := constructFrom_eq_ok hd
    have hsep := hapart.1 hap j k a b hjk ha hb
    rw [claimedRegions_of_construct_beside hca, claimedRegions_of_construct_beside hdb] at hsep
    refine ⟨fun r hr q hq => (regionsOverlap_false_iff_before r q).1 (hsep r hr q hq), fun hv => ?_⟩
    have htc := tableOfRaw_selectedTable_of_construct hca
    have htd := tableOfRaw_selectedTable_of_construct hdb
    rw [selectedTable_eq] at htc htd
    simp only [hv] at htc
    exact Option.some.inj (htc.symm.trans htd)

end Sys2Proof.Machine
end

section
/-!
PROOFS. The command word's decoder and encoder, the dividers of a control word, the steps that stay or are refused, and
the responses each command can give.
-/

namespace Sys2Proof

/-! ## Command words (R63, R65, R66) -/

theorem decodeOp_eq_ok_iff (c : BitVec 2) (op : Op) : decodeOp c = .ok op ↔ c = op.code := by
  revert c
  cases op <;> decide

/-- Only the reserved code is rejected (R65). -/
theorem decodeOp_eq_error_iff (c : BitVec 2) (e : DecodeError) : decodeOp c = .error e ↔ c = 3 := by
  revert c
  cases e
  decide

@[simp] theorem op_ofOp (op : Op) (f : Freq) : (Instr.ofOp op f).op = op := by
  cases op <;> rfl

@[simp] theorem operand_ofOp (op : Op) (f : Freq) : (Instr.ofOp op f).operand = f := by
  cases op <;> rfl

/-- Exactly the word of a command decodes to it. -/
theorem decode_eq_ok_iff (w : CommandWord) (i : Instr) : decode w = .ok i ↔ encode i = w := by
  constructor
  · intro h
    unfold decode at h
    cases hop : decodeOp (opField w) with
    | error e => simp [hop] at h
    | ok op =>
      simp only [hop, Except.ok.injEq] at h
      rw [encode, ← h, op_ofOp, operand_ofOp, ← (decodeOp_eq_ok_iff _ _).1 hop, commandWord_fields]
  · rintro rfl
    have hop : decodeOp (opField (encode i)) = .ok i.op :=
      (decodeOp_eq_ok_iff _ _).2 (opField_commandWord _ _)
    have hf : freqField (encode i) = i.operand := freqField_commandWord _ _
    simp [decode, hop, hf]

theorem decode_encode (i : Instr) : decode (encode i) = .ok i :=
  (decode_eq_ok_iff _ i).2 rfl

/-- Exactly the words with code 3 are rejected (R65). -/
theorem decode_eq_error_iff (w : CommandWord) (e : DecodeError) : decode w = .error e ↔ opField w = 3 := by
  rw [← decodeOp_eq_error_iff _ e]
  unfold decode
  cases decodeOp (opField w) <;> simp

theorem instr_wellFormed (i : Instr) : i.wellFormed = true := by
  cases i with
  | getRate x => exact Laws.OperandFits.getRate x
  | setRate f => exact Laws.OperandFits.setRate f
  | roundRate f => exact Laws.OperandFits.roundRate f

/-- Settles O1: exactly the word of a command decodes to it, and every command is well formed. -/
theorem decodeAndEncodeAgree : Obligations.DecodeAndEncodeAgree :=
  ⟨fun i _ => decode_encode i, fun w i h => ⟨instr_wellFormed i, (decode_eq_ok_iff w i).1 h⟩⟩

theorem encode_toNat (i : Instr) : (encode i).toNat = 4 * i.operand.toNat + i.op.code.toNat := by
  rw [encode, commandWord_toNat, Nat.mul_comm]

/-- A command's word, as a number, decodes to the command. -/
theorem decode_ofNat_of_encode {i : Instr} {n : Nat} (h : (encode i).toNat = n) :
    decode (BitVec.ofNat 66 n) = .ok i := by
  rw [← h, BitVec.ofNat_toNat, BitVec.setWidth_eq, decode_encode]

/-- Settles O2: the numbers of the three words, and the code field of the fourth. -/
theorem commandCodesSelectTheCommands : Obligations.CommandCodesSelectTheCommands := by
  intro f
  have hget : (encode (.getRate f)).toNat = 4 * f.toNat := encode_toNat (.getRate f)
  have hset : (encode (.setRate f)).toNat = 4 * f.toNat + 1 := encode_toNat (.setRate f)
  have hround : (encode (.roundRate f)).toNat = 4 * f.toNat + 2 := encode_toNat (.roundRate f)
  have hreserved : opField (BitVec.ofNat 66 (4 * f.toNat + 3)) = 3 := by
    apply BitVec.eq_of_toNat_eq
    rw [opField_toNat, BitVec.toNat_ofNat]
    change _ = 3
    omega
  exact ⟨decode_ofNat_of_encode hget, decode_ofNat_of_encode hset, decode_ofNat_of_encode hround,
    (decode_eq_error_iff _ _).2 hreserved, hget, hset, hround⟩

/-- Settles O3: each line and each number, evaluated. -/
theorem writtenOutCommandsAreRead : Obligations.WrittenOutCommandsAreRead :=
  ⟨by decide, by decide, by decide, by decide, by decide, by decide, by decide, by decide⟩

end Sys2Proof

namespace Sys2Proof.Machine

/-! ## The dividers of a control word (R55, R58) -/

theorem idivField_toNat (w : Word) : (idivField w).toNat = w.toNat / 16 % 32 := by
  simp [idivField, BitVec.extractLsb'_toNat, Nat.shiftRight_eq_div_pow]

theorem fbdivField_toNat (w : Word) : (fbdivField w).toNat = w.toNat / 512 % 128 := by
  simp [fbdivField, BitVec.extractLsb'_toNat, Nat.shiftRight_eq_div_pow]

theorem odivField_toNat (w : Word) : (odivField w).toNat = w.toNat / 4 % 4 := by
  simp [odivField, BitVec.extractLsb'_toNat, Nat.shiftRight_eq_div_pow]

theorem inputDivider_le (w : Word) : inputDivider w ≤ 32 := (idivField w).isLt

theorem outputDivider_pos (w : Word) : 0 < outputDivider w := Nat.two_pow_pos _

theorem outputDivider_le (w : Word) : outputDivider w ≤ 2 ^ 3 :=
  Nat.pow_le_pow_right Nat.two_pos (Nat.le_of_lt_succ (odivField w).isLt)

/-- Settles O12: each field as a number of the word's bits, and the bounds of the two dividers. -/
theorem dividersAreAssembledFromTheFields : Obligations.DividersAreAssembledFromTheFields := fun w =>
  ⟨by rw [inputDivider, idivField_toNat], by rw [feedbackDivider, fbdivField_toNat],
    by rw [outputDivider, odivField_toNat], Nat.mul_pos (Nat.succ_pos _) (outputDivider_pos w),
    Nat.mul_le_mul (inputDivider_le w) (outputDivider_le w)⟩

/-! ## Staying in IDLE, and the refusals (R65, R83, R106, R115) -/

theorem step_of_not_instanceExists {s : State} (hb : instanceExists s.config = false) :
    step s = .refused .constructionFailed := by
  simp [step, hb]

section
variable {s : State} (hb : instanceExists s.config = true) (hr : s.resetIn = false) (hi : s.fsm = .idle)
include hb hr hi

theorem step_of_no_request (hv : s.reqValid = false) : step s = .next s := by
  simp [step, hb, hr, nextWork, presentedRequest, hi, hv]

theorem step_of_reserved (hv : s.reqValid = true) (hop : s.reqOpIn = 3) : step s = .refused .reservedCommand := by
  have hd : decode (commandWord s.reqOpIn s.reqFreqIn) = .error .reservedCommand :=
    (decode_eq_error_iff _ _).2 (by rw [opField_commandWord, hop])
  simp [step, hb, hr, nextWork, presentedRequest, hi, hv, hd]

end

/-- Settles O6, clause by clause. -/
theorem idleStaysAndRefusalsAreByName : Obligations.IdleStaysAndRefusalsAreByName :=
  fun _ => ⟨step_of_no_request, step_of_reserved, step_of_not_instanceExists⟩

/-! ## Every command moves on along its path (R83, R106) -/

/-- On its path a command answers a next state, given an AUX address where it writes AUX. -/
theorem exec_next_of_onPath {i : Instr} {s : State} (hpath : onPath i.op s.fsm = true)
    (haux : s.fsm = .pre ∨ s.fsm = .post → ∃ a, s.config.auxBase = some a) : ∃ t, exec i s = .next t := by
  cases i with
  | getRate x =>
    cases hf : s.fsm
    case idle | getrd | resp => simp [exec, execGetRate, hf]
    all_goals simp [hf, Instr.op, onPath] at hpath
  | setRate f =>
    cases hf : s.fsm
    case getrd => simp [hf, Instr.op, onPath] at hpath
    case pre =>
      obtain ⟨a, ha⟩ := haux (.inl hf)
      simp [exec, execSetRate, hf, preStep_eq ha]
    case post =>
      obtain ⟨a, ha⟩ := haux (.inr hf)
      simp [exec, execSetRate, hf, postStep_eq ha]
    all_goals simp [exec, execSetRate, hf]
  | roundRate f =>
    cases hf : s.fsm
    case idle | matching | resp => simp [exec, execRoundRate, hf]
    all_goals simp [hf, Instr.op, onPath] at hpath

/-- With the invariant, PRE and POST are states of a CoreClock, which has an `AUX_BASE` (R88, R115). -/
theorem auxBase_of_inv {s : State} (h : s.Inv) (hf : s.fsm = .pre ∨ s.fsm = .post) :
    ∃ a, s.config.auxBase = some a := by
  refine auxBase_of_coreClock h.built ?_
  rcases hf with hf | hf
  · exact ((needsPre_iff s).1 (h.preSide hf)).1
  · exact ((needsPost_iff s).1 (h.postSide hf)).1

/-- Settles O50: reset, a stay, the presented command or the refusal in IDLE, and elsewhere the command in progress. -/
theorem noStateIsStuck : Obligations.NoStateIsStuck := by
  intro s h
  cases hr : s.resetIn with
  | true => exact .inl ⟨_, step_of_resetIn h.built hr⟩
  | false =>
    by_cases hi : s.fsm = .idle
    · cases hv : s.reqValid with
      | false => exact .inl ⟨s, step_of_no_request h.built hr hi hv⟩
      | true =>
        cases hd : decode (commandWord s.reqOpIn s.reqFreqIn) with
        | ok i =>
          rw [step_of_command h.built hr (nextWork_presented hi hv hd)]
          exact .inl (exec_next_of_onPath (by rw [hi]; exact onPath_idle _) (auxBase_of_inv h))
        | error e =>
          have hop : s.reqOpIn = 3 := by rw [← (decode_eq_error_iff _ e).1 hd, opField_commandWord]
          exact .inr ⟨step_of_reserved h.built hr hi hv hop, hi, rfl, hop⟩
    · rw [step_inProgress h.built hr hi]
      exact .inl (exec_next_of_onPath (by rw [latchedCommand_op]; exact h.path) (auxBase_of_inv h))

/-! ## The statuses of each command (R64, R100 to R104) -/

/-- An answer of the matcher is always found in the table, so that SET_RATE's MATCH fails on an empty table only (R74). -/
theorem chosenEntry_none_iff (t : RateTable) (f : Freq) : chosenEntry t f = none ↔ entries t = [] := by
  refine ⟨fun h => ?_, chosenEntry_none_of_no_entries f⟩
  rw [← findNearest_none_iff t f]
  by_contra hn
  obtain ⟨r, hr⟩ := Option.ne_none_iff_exists'.1 hn
  obtain ⟨e, he, hte⟩ := findNearest_mem hr
  rw [chosenEntry, hr, Option.bind_some, lookupByTarget, List.find?_eq_none] at h
  exact h e he (by simp [hte])

/-- CHECK raises one of its own two errors (R92, R103). -/
theorem statusError_ne_invalidConfiguration (w : Word) : statusError w ≠ some .invalidConfiguration := by
  rcases statusError_cases w with ⟨-, h⟩ | ⟨-, -, h⟩ | ⟨-, -, h⟩ <;> simp [h]

/-- A transition into RESP: an OK response, MATCH's error on an empty table, or an error of SET_RATE's CHECK. -/
theorem exec_responds_cases {i : Instr} {s t : State} (h : exec i s = .next t) (hs : s.fsm ≠ .resp)
    (ht : t.fsm = .resp) :
    t.rspStatus = .ok ∨
      (i.op ≠ .getRate ∧ s.fsm = .matching ∧ entries s.config.table = [] ∧ t = raise .invalidConfiguration s) ∨
      (i.op = .setRate ∧ s.fsm = .check ∧
        ∃ e, e ≠ .invalidConfiguration ∧ t = raise e (memRead .status s).2) := by
  cases i with
  | getRate x =>
    rcases execGetRate_cases h with ⟨-, rfl⟩ | ⟨-, rfl⟩ | ⟨hf, -⟩
    · cases ht
    · exact .inl rfl
    · exact absurd hf hs
  | setRate f =>
    rcases execSetRate_cases h with ⟨-, rfl⟩ | ⟨hf, rfl⟩ | ⟨-, a, -, rfl⟩ | ⟨-, rfl⟩ | ⟨hf, rfl⟩ | ⟨hf, rfl⟩ |
      ⟨-, a, -, rfl⟩ | ⟨hf, -⟩
    · cases ht
    · rcases matchForSet_cases s with ⟨hn, he⟩ | ⟨d, -, ⟨-, he⟩ | ⟨-, he⟩⟩ <;> rw [he] at ht ⊢
      · exact .inr (.inl ⟨nofun, hf, (chosenEntry_none_iff _ _).1 hn, rfl⟩)
      · cases ht
      · cases ht
    · cases ht
    · cases ht
    · rcases waitStep_cases s with ⟨-, he⟩ | ⟨-, he⟩ <;> rw [he] at ht
      · cases ht
      · simp [hf] at ht
    · rcases checkStep_cases s with ⟨e, hw, he⟩ | ⟨-, -, he⟩ | ⟨-, -, he⟩ <;> rw [he] at ht ⊢
      · refine .inr (.inr ⟨rfl, hf, e, ?_, rfl⟩)
        rintro rfl
        exact statusError_ne_invalidConfiguration _ hw
      · cases ht
      · exact .inl rfl
    · exact .inl rfl
    · exact absurd hf hs
  | roundRate f =>
    rcases execRoundRate_cases h with ⟨-, rfl⟩ | ⟨hf, rfl⟩ | ⟨hf, -⟩
    · cases ht
    · rcases matchForRound_cases s with ⟨hn, he⟩ | ⟨r, -, he⟩ <;> rw [he]
      · exact .inr (.inl ⟨nofun, hf, (findNearest_none_iff _ _).1 hn, rfl⟩)
      · exact .inl rfl
    · exact absurd hf hs

theorem errorStatus_eq_invalidConfiguration_iff (e : CommandError) :
    errorStatus e = .invalidConfiguration ↔ e = .invalidConfiguration := by
  cases e <;> decide

/-- Settles O38: an OK response, MATCH's error and CHECK's errors, each against the five clauses. -/
theorem eachCommandRespondsItsOwnStatuses : Obligations.EachCommandRespondsItsOwnStatuses := by
  intro i s t h hs ht
  rcases exec_responds_cases h hs ht with hok | ⟨hop, hf, hempty, rfl⟩ | ⟨hop, hf, e, he, rfl⟩
  · simp [hok]
  · simp [hop, hf, hempty, errorStatus]
  · simp [hop, hf, he, errorStatus_eq_invalidConfiguration_iff]

end Sys2Proof.Machine
end

section
/-!
PROOFS. The Rate Matcher: where a table ends, the entry each of its two searches returns, and ROUND_RATE beside SET_RATE.
-/

namespace Sys2Proof.Machine

/-! ## The entries of a table (R69) -/

theorem entries_eq_self {t : RateTable} (h : ∀ e ∈ t, e.target ≠ 0) : entries t = t :=
  List.takeWhile_eq_self_iff.2 fun e he => bne_iff_ne.2 (h e he)

theorem entries_append_sentinel {t : RateTable} {d : DividerConfiguration} (rest : RateTable)
    (h : ∀ e ∈ t, e.target ≠ 0) (hd : d.target = 0) : entries (t ++ d :: rest) = t := by
  rw [entries, List.takeWhile_append_of_pos fun e he => bne_iff_ne.2 (h e he),
    List.takeWhile_cons_of_neg (by simp [hd]), List.append_nil]

theorem target_ne_zero_of_mem_entries {t : RateTable} {e : DividerConfiguration} (h : e ∈ entries t) : e.target ≠ 0 := by
  simpa using List.mem_takeWhile_imp h

/-- Settles O24: the entries with and without a sentinel, and their lengths. -/
theorem sentinelEndsTheTable : Obligations.SentinelEndsTheTable := by
  refine ⟨fun t rest d h hd => ?_, fun _ _ => target_ne_zero_of_mem_entries⟩
  have hsentinel : entries (t ++ d :: rest) = t := entries_append_sentinel rest h hd
  have hself : entries t = t := entries_eq_self h
  exact ⟨hsentinel, congrArg List.length hsentinel, hself, congrArg List.length hself⟩

/-! ## LOOKUP_BY_TARGET (R73) -/

theorem lookupByTarget_none_iff (t : RateTable) (r : Freq) :
    lookupByTarget t r = none ↔ ∀ e ∈ entries t, e.target ≠ r := by
  simp [lookupByTarget]

/-- The lookup answers an entry that splits the table: it has the target, and nothing before it has. -/
theorem lookupByTarget_some_iff (t : RateTable) (r : Freq) (e : DividerConfiguration) :
    lookupByTarget t r = some e ↔
      e.target = r ∧ ∃ pre post, entries t = pre ++ e :: post ∧ ∀ d ∈ pre, d.target ≠ r := by
  simp [lookupByTarget, List.find?_eq_some_iff_append]

theorem mem_of_getElem?_append_of_lt {α : Type} {pre l : List α} {j : Nat} {d : α} (hd : (pre ++ l)[j]? = some d)
    (hj : j < pre.length) : d ∈ pre :=
  List.mem_of_getElem? ((List.getElem?_append_left hj).symm.trans hd)

/-- Settles O25: the index of the entry found is the length of what stands before it. -/
theorem lookupFindsTheFirstEntry : Obligations.LookupFindsTheFirstEntry := by
  refine fun t r => ⟨lookupByTarget_none_iff t r, fun e h => ?_,
    (lookupByTarget_none_iff t 0).2 fun _ => target_ne_zero_of_mem_entries⟩
  obtain ⟨he, pre, post, hsplit, hpre⟩ := (lookupByTarget_some_iff t r e).1 h
  rw [hsplit]
  exact ⟨he, pre.length, by simp, fun j d hj hd => hpre d (mem_of_getElem?_append_of_lt hd hj)⟩

/-! ## FIND_NEAREST and the lookup of its answer (R72, R74) -/

/-- Entry `e`, at index `b` of the entries `l`, is the earliest of those nearest to `f` (R72). -/
structure EarliestNearest (l : List DividerConfiguration) (f : Freq) (b : Nat) (e : DividerConfiguration) : Prop where
  entry : l[b]? = some e
  nearest : ∀ (j : Nat) (d : DividerConfiguration), l[j]? = some d → distance f e.target ≤ distance f d.target
  earliest : ∀ (j : Nat) (d : DividerConfiguration), l[j]? = some d → j < b →
    distance f e.target < distance f d.target

theorem earliestNearest_of_split {pre post : List DividerConfiguration} {f : Freq} {e : DividerConfiguration}
    (hpre : ∀ d ∈ pre, distance f e.target < distance f d.target)
    (hpost : ∀ d ∈ post, distance f e.target ≤ distance f d.target) :
    EarliestNearest (pre ++ e :: post) f pre.length e where
  entry := by simp
  nearest j d hd := by
    have hall : ∀ x ∈ pre ++ e :: post, distance f e.target ≤ distance f x.target :=
      List.forall_mem_append.2 ⟨fun x hx => (hpre x hx).le, List.forall_mem_cons.2 ⟨le_rfl, hpost⟩⟩
    exact hall d (List.mem_of_getElem? hd)
  earliest j d hd hj := hpre d (mem_of_getElem?_append_of_lt hd hj)

/-- The lookup of FIND_NEAREST's answer stops at the very entry the scan chose: every earlier one is strictly farther, so
none has its target. -/
theorem chosenEntry_of_findNearest {t : RateTable} {f r : Freq} (h : findNearest t f = some r) :
    ∃ b e, EarliestNearest (entries t) f b e ∧ e.target = r ∧ chosenEntry t f = some e := by
  obtain ⟨pre, e, post, hsplit, he, hpre, hpost⟩ := findNearest_split h
  have hfirst : ∀ d ∈ pre, d.target ≠ r := by
    intro d hd hdr
    have hlt := hpre d hd
    rw [he, hdr] at hlt
    exact lt_irrefl _ hlt
  have hlookup : lookupByTarget t r = some e := (lookupByTarget_some_iff t r e).2 ⟨he, pre, post, hsplit, hfirst⟩
  refine ⟨pre.length, e, ?_, he, ?_⟩
  · rw [hsplit]
    exact earliestNearest_of_split hpre hpost
  · rw [chosenEntry, h, Option.bind_some, hlookup]

/-- The entry SET_RATE programs is the earliest nearest one, and its target is FIND_NEAREST's answer (R74). -/
theorem earliestNearest_of_chosenEntry {t : RateTable} {f : Freq} {e : DividerConfiguration}
    (h : chosenEntry t f = some e) : findNearest t f = some e.target ∧ ∃ b, EarliestNearest (entries t) f b e := by
  obtain ⟨r, hr, -⟩ := Option.bind_eq_some_iff.1 h
  obtain ⟨b, e', hb, he', hc⟩ := chosenEntry_of_findNearest hr
  obtain rfl : e' = e := Option.some.inj (hc.symm.trans h)
  exact ⟨by rw [hr, he'], b, hb⟩

/-- Settles O26: the lookup fails on an empty table only, and returns the scan's own entry. -/
theorem lookupOfTheNearestNeverFails : Obligations.LookupOfTheNearestNeverFails := by
  refine fun t f => ⟨chosenEntry_none_iff t f, fun e h => ?_⟩
  obtain ⟨hr, b, hb⟩ := earliestNearest_of_chosenEntry h
  exact ⟨hr, b, hb.entry, hb.nearest, hb.earliest⟩

/-- Settles O22: a table with an entry has a chosen entry. -/
theorem nearestEntryIsChosen : Obligations.NearestEntryIsChosen := by
  intro t f hne
  obtain ⟨e, he⟩ := Option.ne_none_iff_exists'.1 (mt (chosenEntry_none_iff t f).1 hne)
  obtain ⟨hr, b, hb⟩ := earliestNearest_of_chosenEntry he
  exact ⟨b, e, hb.entry, hr, hb.nearest, hb.earliest⟩

/-! ## ROUND_RATE (R75) -/

theorem exec_roundRate_matching (f : Freq) {s : State} (hf : s.fsm = .matching) :
    exec (.roundRate f) s = .next (matchForRound s) := by
  simp [exec, execRoundRate, hf]

theorem matchForRound_of_some {s : State} {r : Freq} (h : findNearest s.config.table s.reqFreq = some r) :
    matchForRound s = respond .ok r s := by
  simp [matchForRound, h]

theorem matchForRound_of_none {s : State} (h : findNearest s.config.table s.reqFreq = none) :
    matchForRound s = raise .invalidConfiguration s := by
  simp [matchForRound, h]

/-- Settles O27: the response or the error of MATCH, written out. -/
theorem roundRateRespondsWithTheNearestTarget : Obligations.RoundRateRespondsWithTheNearestTarget := by
  intro f s hf
  rw [exec_roundRate_matching f hf]
  exact ⟨fun r hr => by rw [matchForRound_of_some hr]; rfl, fun hn => by rw [matchForRound_of_none hn]; rfl⟩

/-- A presented command is the one an idle block runs (R33, R63). -/
theorem step_of_presented_command {s : State} {i : Instr} (h : Presented s i.op.code i.operand) :
    step s = exec i s := by
  refine step_of_command h.built h.noReset (nextWork_presented h.idle h.valid ?_)
  rw [h.op, h.freq]
  exact decode_encode i

theorem step_of_presented_roundRate {s : State} {f : Freq} (h : Presented s 2 f) :
    step s = .next (acceptRequest .roundRate f .matching s) := by
  rw [step_of_presented_command (i := .roundRate f) h]
  simp [exec, execRoundRate, h.idle]

/-- Acceptance and MATCH are the whole of ROUND_RATE. -/
theorem run_roundRate {s : State} {f : Freq} (h : Presented s 2 f) :
    run 2 s = .next (matchForRound (acceptRequest .roundRate f .matching s)) := by
  have hm : step (acceptRequest .roundRate f .matching s) =
      exec (.roundRate f) (acceptRequest .roundRate f .matching s) :=
    step_inProgress h.built h.noReset (by simp)
  rw [run_succ 1 (step_of_presented_roundRate h), run_one (hm.trans (exec_roundRate_matching f rfl))]

theorem run_roundRate_of_some {s : State} {f r : Freq} (h : Presented s 2 f)
    (hr : findNearest s.config.table f = some r) :
    run 2 s = .next (respond .ok r (acceptRequest .roundRate f .matching s)) := by
  rw [run_roundRate h, matchForRound_of_some hr]

/-- Settles O28: the two outcomes of MATCH on the accepted request. -/
theorem roundRateRunsToItsResponse : Obligations.RoundRateRunsToItsResponse := by
  refine fun s f h => ⟨fun r hr => run_roundRate_of_some h hr, fun hn => ?_⟩
  rw [run_roundRate h, matchForRound_of_none hn]
  rfl

/-! ## ROUND_RATE previews SET_RATE (R75, R84) -/

theorem setRateResponse_of_passed (d : DividerConfiguration) {w : Word} (hw : statusError w = none) :
    setRateResponse d w = (.ok, d.target) := by
  rw [setRateResponse, hw]

/-- Settles O43: both respond OK with the target of the entry chosen. -/
theorem roundRatePreviewsSetRate : Obligations.RoundRatePreviewsSetRate := by
  intro s u f d hs hu hc hd hw
  obtain ⟨hr, -⟩ := earliestNearest_of_chosenEntry hd
  rw [hc] at hr
  refine ⟨_, _, run_setRate hs hd, run_roundRate_of_some hu hr, rfl, rfl, ?_⟩
  rw [responsePort_of_resp rfl, responsePort_of_resp rfl, setRateAnswered, setRateResponse_of_passed d hw]
  rfl

end Sys2Proof.Machine
end

section
/-!
PROOFS. The Register Codec: ENCODE's word and its fields, DECODE as exact arithmetic, and GET_RATE from its presented
request to its response, alone and after a SET_RATE.
-/

namespace Sys2Proof.Machine

/-! ## ENCODE (R76, R77) -/

/-- A code that fits its field is shifted into it without loss. -/
theorem toNat_setWidth_shiftLeft {w n : Nat} (x : BitVec w) (h : w + n ≤ 32) :
    (x.setWidth 32 <<< n).toNat = x.toNat <<< n := by
  have hlt : x.toNat <<< n < 2 ^ 32 := by
    rw [Nat.shiftLeft_eq]
    calc x.toNat * 2 ^ n < 2 ^ w * 2 ^ n := Nat.mul_lt_mul_of_pos_right x.isLt (Nat.two_pow_pos n)
      _ = 2 ^ (w + n) := (Nat.pow_add 2 w n).symm
      _ ≤ 2 ^ 32 := Nat.pow_le_pow_right Nat.two_pos h
  rw [BitVec.toNat_shiftLeft, BitVec.toNat_setWidth_of_le (by omega), Nat.mod_eq_of_lt hlt]

/-- The codes and the constant-zero ranges side by side, BAND at the top (R76). -/
theorem encodeControl_eq_append (d : DividerConfiguration) :
    encodeControl d = d.band ++ 0#4 ++ d.fbdiv ++ d.idiv ++ d.odiv ++ 0#2 := by
  have hor : (encodeControl d).toNat =
      d.idiv.toNat <<< 4 ||| d.fbdiv.toNat <<< 9 ||| d.odiv.toNat <<< 2 ||| d.band.toNat <<< 20 := by
    simp only [encodeControl, BitVec.toNat_or, toNat_setWidth_shiftLeft, Nat.reduceAdd, Nat.reduceLeDiff]
  have happend : (d.band ++ 0#4 ++ d.fbdiv ++ d.idiv ++ d.odiv ++ 0#2).toNat =
      d.band.toNat <<< 20 ||| d.fbdiv.toNat <<< 9 ||| d.idiv.toNat <<< 4 ||| d.odiv.toNat <<< 2 := by
    simp only [BitVec.toNat_append, BitVec.toNat_ofNat, Nat.shiftLeft_or_distrib, ← Nat.shiftLeft_add]
    simp only [Nat.zero_mod, Nat.zero_shiftLeft, Nat.or_zero, Nat.reduceAdd]
  apply BitVec.eq_of_toNat_eq
  refine hor.trans (Eq.trans ?_ happend.symm)
  generalize d.band.toNat <<< 20 = b, d.fbdiv.toNat <<< 9 = f, d.idiv.toNat <<< 4 = i, d.odiv.toNat <<< 2 = o
  ac_rfl

theorem toNat_append_eq_add {m n : Nat} (x : BitVec m) (y : BitVec n) :
    (x ++ y).toNat = x.toNat * 2 ^ n + y.toNat := by
  rw [BitVec.toNat_append, ← Nat.shiftLeft_add_eq_or_of_lt y.isLt, Nat.shiftLeft_eq]

theorem encodeControl_toNat (d : DividerConfiguration) : (encodeControl d).toNat =
    d.idiv.toNat * 2 ^ 4 + d.fbdiv.toNat * 2 ^ 9 + d.odiv.toNat * 2 ^ 2 + d.band.toNat * 2 ^ 20 := by
  have hsum : (d.band ++ 0#4 ++ d.fbdiv ++ d.idiv ++ d.odiv ++ 0#2).toNat =
      d.idiv.toNat * 2 ^ 4 + d.fbdiv.toNat * 2 ^ 9 + d.odiv.toNat * 2 ^ 2 + d.band.toNat * 2 ^ 20 := by
    simp only [toNat_append_eq_add, BitVec.toNat_ofNat]
    omega
  rw [encodeControl_eq_append]
  exact hsum

/-- A code too wide for its field makes no Divider Configuration (R70 item a, R76). -/
theorem entryOfRaw_eq_none {e : RawEntry}
    (h : 2 ^ 5 ≤ e.idiv ∨ 2 ^ 7 ≤ e.fbdiv ∨ 2 ^ 2 ≤ e.odiv ∨ 2 ^ 12 ≤ e.band) : entryOfRaw e = none :=
  if_neg (by omega)

/-- Settles O13: the concatenation, its value, and ENCODE's reading nothing of the target. -/
theorem encodePacksTheCodes : Obligations.EncodePacksTheCodes :=
  ⟨fun d => ⟨encodeControl_eq_append d, encodeControl_toNat d, fun _ => rfl⟩, fun _ => entryOfRaw_eq_none⟩

theorem bandField_toNat (w : Word) : (bandField w).toNat = w.toNat / 2 ^ 20 % 2 ^ 12 := by
  simp [bandField, BitVec.extractLsb'_toNat, Nat.shiftRight_eq_div_pow]

@[simp] theorem idivField_encodeControl (d : DividerConfiguration) : idivField (encodeControl d) = d.idiv := by
  apply BitVec.eq_of_toNat_eq
  rw [idivField_toNat, encodeControl_toNat]
  omega

@[simp] theorem fbdivField_encodeControl (d : DividerConfiguration) : fbdivField (encodeControl d) = d.fbdiv := by
  apply BitVec.eq_of_toNat_eq
  rw [fbdivField_toNat, encodeControl_toNat]
  omega

@[simp] theorem odivField_encodeControl (d : DividerConfiguration) : odivField (encodeControl d) = d.odiv := by
  apply BitVec.eq_of_toNat_eq
  rw [odivField_toNat, encodeControl_toNat]
  omega

@[simp] theorem bandField_encodeControl (d : DividerConfiguration) : bandField (encodeControl d) = d.band := by
  apply BitVec.eq_of_toNat_eq
  rw [bandField_toNat, encodeControl_toNat]
  omega

theorem extractLsb'_zero_two_encodeControl (d : DividerConfiguration) : (encodeControl d).extractLsb' 0 2 = 0 := by
  apply BitVec.eq_of_getLsbD_eq
  intro i hi
  simp [hi, encodeControl_getLsbD_of_lt_two]

theorem encodeControl_inj {d e : DividerConfiguration} : encodeControl d = encodeControl e ↔
    d.idiv = e.idiv ∧ d.fbdiv = e.fbdiv ∧ d.odiv = e.odiv ∧ d.band = e.band := by
  constructor
  · intro h
    exact ⟨by simpa using congrArg idivField h, by simpa using congrArg fbdivField h,
      by simpa using congrArg odivField h, by simpa using congrArg bandField h⟩
  · rintro ⟨hi, hf, ho, hb⟩
    rw [encodeControl, encodeControl, hi, hf, ho, hb]

/-- Settles O14: each field reads back its code, and so the word gives the codes. -/
theorem encodeIsInjectiveOnTheCodes : Obligations.EncodeIsInjectiveOnTheCodes :=
  ⟨fun d => ⟨idivField_encodeControl d, fbdivField_encodeControl d, odivField_encodeControl d,
    bandField_encodeControl d, unassignedField_encodeControl d, extractLsb'_zero_two_encodeControl d⟩,
    fun _ _ => encodeControl_inj⟩

/-! ## DECODE (R78, R79) -/

theorem powerdownBit_eq (w : Word) : powerdownBit w = decide (w.toNat % 2 = 1) :=
  Nat.testBit_zero _

theorem bypassBit_eq (w : Word) : bypassBit w = decide (w.toNat / 2 % 2 = 1) :=
  Nat.testBit_eq_decide_div_mod_eq

theorem decodeHz_of_powerdown {w : Word} (ref : Nat) (h : powerdownBit w = true) : decodeHz w ref = 0 := by
  simp [decodeHz, h]

theorem decodeHz_of_bypass {w : Word} (ref : Nat) (hp : powerdownBit w = false) (hb : bypassBit w = true) :
    decodeHz w ref = ref := by
  simp [decodeHz, hp, hb]

theorem decodeHz_of_running {w : Word} (ref : Nat) (hp : powerdownBit w = false) (hb : bypassBit w = false) :
    decodeHz w ref = ref * feedbackDivider w / (inputDivider w * outputDivider w) := by
  simp [decodeHz, hp, hb]

theorem feedbackDivider_le (w : Word) : feedbackDivider w ≤ 256 := by
  have := (fbdivField w).isLt
  rw [feedbackDivider]
  omega

theorem decodeHz_le (w : Word) (ref : Nat) : decodeHz w ref ≤ 256 * ref := by
  cases hp : powerdownBit w with
  | true => simp [decodeHz_of_powerdown ref hp]
  | false =>
    cases hb : bypassBit w with
    | true => rw [decodeHz_of_bypass ref hp hb]; omega
    | false =>
      rw [decodeHz_of_running ref hp hb, Nat.mul_comm 256]
      exact (Nat.div_le_self _ _).trans (Nat.mul_le_mul_left ref (feedbackDivider_le w))

/-- DECODE never wraps: the reference is below 2^56 (R5, R78). -/
@[simp] theorem decodeControl_toNat (w : Word) (ref : BitVec 56) :
    (decodeControl w ref).toNat = decodeHz w ref.toNat := by
  have hle := decodeHz_le w ref.toNat
  have href := ref.isLt
  exact Nat.mod_eq_of_lt (by omega)

/-- DECODE as a number of the control word's bits (R78). -/
theorem decodeHz_eq_bits (w : Word) (ref : Nat) : decodeHz w ref =
    if w.toNat % 2 = 1 then 0
    else if w.toNat / 2 % 2 = 1 then ref
    else ref * (2 * (w.toNat / 512 % 128 + 1)) / ((w.toNat / 16 % 32 + 1) * 2 ^ (w.toNat / 4 % 4)) := by
  simp only [decodeHz, powerdownBit_eq, bypassBit_eq, decide_eq_true_eq, feedbackDivider, inputDivider, outputDivider,
    fbdivField_toNat, idivField_toNat, odivField_toNat]

/-- Settles O15: the word's bits decide, and no result reaches 2^64. -/
theorem decodeIsExactAndTotal : Obligations.DecodeIsExactAndTotal := by
  intro w ref
  rw [decodeControl_toNat]
  exact ⟨decodeHz_eq_bits w ref.toNat, decodeHz_le w ref.toNat⟩

/-- DECODE reads bits 15:0 only (R79). -/
theorem decodeHz_congr {v w : Word} (ref : Nat) (h : v.toNat % 2 ^ 16 = w.toNat % 2 ^ 16) :
    decodeHz v ref = decodeHz w ref := by
  have hpowerdown : v.toNat % 2 = w.toNat % 2 := by omega
  have hbypass : v.toNat / 2 % 2 = w.toNat / 2 % 2 := by omega
  have hodiv : v.toNat / 4 % 4 = w.toNat / 4 % 4 := by omega
  have hidiv : v.toNat / 16 % 32 = w.toNat / 16 % 32 := by omega
  have hfbdiv : v.toNat / 512 % 128 = w.toNat / 512 % 128 := by omega
  rw [decodeHz_eq_bits, decodeHz_eq_bits, hpowerdown, hbypass, hodiv, hidiv, hfbdiv]

/-- Settles O16: powerdown is tested first, then bypass, and no bit above FBDIV is read. -/
theorem powerdownAndBypassDecode : Obligations.PowerdownAndBypassDecode := by
  refine fun w ref => ⟨fun hp => ?_, fun hp hb => ?_, fun v hv => ?_⟩
  · rw [decodeControl, decodeHz_of_powerdown _ hp]
    rfl
  · rw [decodeControl_toNat, decodeHz_of_bypass _ hp hb]
  · have hlow : v.toNat % 2 ^ 16 = w.toNat % 2 ^ 16 := by
      simpa [BitVec.extractLsb'_toNat] using congrArg BitVec.toNat hv
    rw [decodeControl, decodeControl, decodeHz_congr _ hlow]

/-! ## DECODE of ENCODE (R80) -/

/-- An encoded configuration neither powers down nor bypasses, and its codes give the dividers (R80). -/
theorem decodeControl_encodeControl_toNat (d : DividerConfiguration) (ref : BitVec 56) :
    (decodeControl (encodeControl d) ref).toNat =
      ref.toNat * 2 * (d.fbdiv.toNat + 1) / ((d.idiv.toNat + 1) * 2 ^ d.odiv.toNat) := by
  have hpowerdown : powerdownBit (encodeControl d) = false := encodeControl_getLsbD_of_lt_two d (by decide)
  have hbypass : bypassBit (encodeControl d) = false := encodeControl_getLsbD_of_lt_two d (by decide)
  rw [decodeControl_toNat, decodeHz_of_running _ hpowerdown hbypass, feedbackDivider, inputDivider, outputDivider,
    fbdivField_encodeControl, idivField_encodeControl, odivField_encodeControl, Nat.mul_assoc]

/-- Settles O17: the formula names neither band nor target. -/
theorem decodeOfEncodeIsTheFormula : Obligations.DecodeOfEncodeIsTheFormula := by
  refine ⟨decodeControl_encodeControl_toNat, fun d ref b t => ?_, by decide⟩
  apply BitVec.eq_of_toNat_eq
  rw [decodeControl_encodeControl_toNat, decodeControl_encodeControl_toNat]

/-! ## GET_RATE (R81, R83) -/

theorem step_of_presented_getRate {s : State} {x : Freq} (h : Presented s 0 x) :
    step s = .next (acceptRequest .getRate x .getrd s) := by
  rw [step_of_presented_command (i := .getRate x) h]
  simp [exec, execGetRate, h.idle]

/-- Acceptance and GETRD are the whole of GET_RATE. -/
theorem run_getRate {s : State} {x : Freq} (h : Presented s 0 x) :
    run 2 s = .next (getRead (acceptRequest .getRate x .getrd s)) := by
  have hg : step (acceptRequest .getRate x .getrd s) = .next (getRead (acceptRequest .getRate x .getrd s)) :=
    step_inProgress h.built h.noReset (by simp)
  rw [run_succ 1 (step_of_presented_getRate h), run_one hg]

/-- Acceptance leaves the PLL's answer to the next CTRL read. -/
theorem ctrlAnswer_acceptRequest (op : Op) (f : Freq) (dest : Fsm) (s : State) :
    ctrlAnswer (acceptRequest op f dest s) = ctrlAnswer s := rfl

/-- Settles O20: GETRD on the accepted request, field by field. -/
theorem getRateRunsToItsResponse : Obligations.GetRateRunsToItsResponse := by
  intro s x h
  refine ⟨_, run_getRate h, ?_⟩
  rw [getRead_eq, ctrlAnswer_acceptRequest]
  simp

/-- Under Storage the decoded rate is that of the word CTRL holds (R12, R81). -/
theorem getRead_rspFreq_of_storage {s : State} (h : s.config.ctrlReadback = .storage) :
    (getRead s).rspFreq = decodeControl s.ctrl s.config.refHz := by
  rw [getRead_eq, ctrlAnswer_storage h, respond_rspFreq]

/-! ## GET_RATE after SET_RATE (R97, R105) -/

/-- A presented command word of a built block is a presented request. -/
theorem presented_presentWord {s : State} (i : Instr) (h : instanceExists s.config = true) :
    Presented (presentWord (encode i) s) i.op.code i.operand :=
  ⟨h, rfl, rfl, rfl, opField_commandWord _ _, freqField_commandWord _ _⟩

/-- SET_RATE answered and its response consumed, from an error as from a success. -/
theorem run_setRate_to_idle {s : State} {f : Freq} {d : DividerConfiguration} (h : Presented s 1 f)
    (hr : s.rspReady = true) (hd : chosenEntry s.config.table f = some d) :
    run (setRateSteps s.config f (statusAnswer s) + 1) s = .next (goto .idle (setRateAnswered f d s)) := by
  have hresp : step (setRateAnswered f d s) = .next (consumeResponse (setRateAnswered f d s)) :=
    (step_inProgress (s := setRateAnswered f d s) h.built h.noReset (by simp [setRateAnswered])).trans (exec_resp _ rfl)
  have hconsume : consumeResponse (setRateAnswered f d s) = goto .idle (setRateAnswered f d s) := if_pos hr
  rw [run_add 1 (run_setRate h hd), run_one hresp, hconsume]

/-- Settles O44: whatever SET_RATE answered, CTRL holds the entry's word, which Storage reads back. -/
theorem getRateAfterSetRateDecodesTheEntry : Obligations.GetRateAfterSetRateDecodesTheEntry := by
  intro s f x d h hs hr hd
  have hget : Presented (presentWord (encode (.getRate x)) (goto .idle (setRateAnswered f d s))) 0 x :=
    presented_presentWord (.getRate x) h.built
  refine ⟨_, _, run_setRate_to_idle h hr hd, rfl, run_getRate hget, rfl, rfl,
    (congrArg BitVec.toNat (getRead_rspFreq_of_storage ?_)).trans
      (decodeControl_encodeControl_toNat d s.config.refHz)⟩
  exact hs

end Sys2Proof.Machine
end

section
/-!
PROOFS. The Sequencer: what its states write, each edge of its transitions, a dutiful table's side of the threshold, and
the answer to every command in progress.
-/

namespace Sys2Proof.Machine

/-! ## SET_RATE in the states that write (R89, R90, R91, R94) -/

section
variable (f : Freq) {s : State}

theorem exec_setRate_pre {b : Nat} (hf : s.fsm = .pre) (hb : s.config.auxBase = some b) :
    exec (.setRate f) s = .next (goto .program (writeAux b s.config.auxDiv2Code s)) := by
  simp [exec, execSetRate, hf, preStep_eq hb]

theorem exec_setRate_program (hf : s.fsm = .program) : exec (.setRate f) s = .next (programStep s) := by
  simp [exec, execSetRate, hf]

theorem exec_setRate_wait (hf : s.fsm = .wait) : exec (.setRate f) s = .next (waitStep s) := by
  simp [exec, execSetRate, hf]

theorem exec_setRate_post {b : Nat} (hf : s.fsm = .post) (hb : s.config.auxBase = some b) :
    exec (.setRate f) s = .next (respond .ok s.cfg.target (writeAux b s.config.auxDiv1Code s)) := by
  simp [exec, execSetRate, hf, postStep_eq hb]

end

/-- Settles O31: PROGRAM's one write, written out. -/
theorem programWritesTheEncodedWord : Obligations.ProgramWritesTheEncodedWord :=
  fun f _ hf => exec_setRate_program f hf

/-- Settles O32: the two sides of WAIT's bound. -/
theorem waitStaysUntilTheTimeHasElapsed : Obligations.WaitStaysUntilTheTimeHasElapsed := by
  intro f s hf
  rw [exec_setRate_wait f hf]
  rcases waitStep_cases s with ⟨hge, ht⟩ | ⟨hlt, ht⟩ <;> rw [ht]
  · exact ⟨fun h => absurd h hge.not_gt, fun _ => rfl⟩
  · exact ⟨fun _ => rfl, fun h => absurd h hlt.not_ge⟩

/-- Settles O39: the ticks of WAIT from 0, and the step that leaves it. -/
theorem waitLastsItsTicks : Obligations.WaitLastsItsTicks := by
  intro s hb hr hf hop ht
  have hs : SettingRate s := ⟨hb, hr, hop⟩
  refine ⟨fun k hk => ?_, run_wait hs hf ht⟩
  have hrun := run_wait_ticks hs hf k (by omega)
  rwa [ht, Nat.zero_add] at hrun

/-! ## GETRD (R95) -/

/-- A CTRL read takes at most a settled answer or one count of the draws (R12). -/
theorem takeCtrlAnswer_eq (s : State) : takeCtrlAnswer s =
    { s with ctrlAnswers := (takeCtrlAnswer s).ctrlAnswers, draws := (takeCtrlAnswer s).draws } := by
  unfold takeCtrlAnswer
  split
  · rfl
  · split <;> rfl

/-- Settles O18: GETRD's response over the read, whose draw is all that the read changes. -/
theorem getRateRespondsWithTheDecodedRate : Obligations.GetRateRespondsWithTheDecodedRate := by
  intro x s hf
  have he : exec (.getRate x) s = .next (getRead s) := by simp [exec, execGetRate, hf]
  refine ⟨getRead s, he, ?_⟩
  rw [getRead_eq, takeCtrlAnswer_eq]
  rfl

/-! ## CHECK (R92) -/

theorem statusError_of_unlocked {w : Word} (hl : w.getLsbD 0 = false) : statusError w = some .lockTimeout := by
  rcases statusError_cases w with ⟨-, h⟩ | ⟨hl', -, -⟩ | ⟨hl', -, -⟩
  · exact h
  · exact absurd (hl.symm.trans hl') nofun
  · exact absurd (hl.symm.trans hl') nofun

theorem statusError_of_locked_error {w : Word} (hl : w.getLsbD 0 = true) (he : w.getLsbD 1 = true) :
    statusError w = some .hardwareError := by
  simp [statusError, lockBit, errBit, hl, he]

@[simp] theorem needsPost_readStatus (s : State) : needsPost (memRead .status s).2 = needsPost s := by
  simp [needsPost, readStatus_snd]

theorem checkStep_of_error {s : State} {e : CommandError} (h : statusError (statusAnswer s) = some e) :
    checkStep s = raise e (memRead .status s).2 := by
  rcases checkStep_cases s with ⟨e', he, ht⟩ | ⟨he, -, -⟩ | ⟨he, -, -⟩
  · cases he.symm.trans h
    exact ht
  · simp [he] at h
  · simp [he] at h

theorem checkStep_of_passed {s : State} (h : statusError (statusAnswer s) = none) :
    checkStep s = if needsPost s then goto .post (memRead .status s).2
      else respond .ok s.cfg.target (memRead .status s).2 := by
  rcases checkStep_cases s with ⟨e, he, -⟩ | ⟨-, hp, ht⟩ | ⟨-, hp, ht⟩
  · simp [he] at h
  · rw [ht, if_pos (by simpa using hp)]
  · rw [ht, if_neg (by simpa using hp)]

/-- Settles O33: the frame of the read, and the two bits and the threshold that decide the rest. -/
theorem checkTestsLockThenError : Obligations.CheckTestsLockThenError := by
  intro f s hf
  refine ⟨checkStep s, exec_setRate_check f hf, ?_, fun hl => ?_, fun hl he => ?_, fun hl he => ?_⟩
  · rw [checkStep_eq, readStatus_snd, takeStatusAnswer_eq]
    rfl
  · rw [checkStep_of_error (statusError_of_unlocked hl)]
    exact ⟨rfl, rfl, rfl⟩
  · rw [checkStep_of_error (statusError_of_locked_error hl he)]
    exact ⟨rfl, rfl, rfl⟩
  · rw [checkStep_of_passed ((statusError_none_iff _).2 ⟨hl, he⟩), ← needsPost_iff]
    exact ⟨fun hp => by simp [hp, readStatus_snd], fun hp => by simp [hp]⟩

/-! ## The edges of the Sequencer (R83) -/

/-- An edge of R83's transition table from the FSM state of `s` to that of `t`, with the guard it is taken under. -/
inductive SequencerEdge (s t : State) : Prop where
  | accept (hs : s.fsm = .idle) (ht : t.fsm = .getrd ∨ t.fsm = .matching)
  | answer (hs : s.fsm = .matching ∨ s.fsm = .check ∨ s.fsm = .post ∨ s.fsm = .getrd) (ht : t.fsm = .resp)
  | enterPre (hs : s.fsm = .matching) (ht : t.fsm = .pre) (guard : needsPre s = true)
  | enterProgram (hs : s.fsm = .matching ∨ s.fsm = .pre) (ht : t.fsm = .program)
  | enterWait (hs : s.fsm = .program) (ht : t.fsm = .wait)
  | tick (hs : s.fsm = .wait) (ht : t.fsm = .wait) (timer : t.waitTimer = s.waitTimer + 1)
      (guard : s.waitTimer < waitTicks s.config)
  | enterCheck (hs : s.fsm = .wait) (ht : t.fsm = .check)
  | enterPost (hs : s.fsm = .check) (ht : t.fsm = .post) (passed : statusError (statusAnswer s) = none)
      (guard : needsPost s = true)
  | consume (hs : s.fsm = .resp) (ht : t.fsm = .idle ∨ t.fsm = .resp)

theorem fsm_of_exec_idle {i : Instr} {s t : State} (h : exec i s = .next t) (hf : s.fsm = .idle) :
    t.fsm = .getrd ∨ t.fsm = .matching := by
  rw [acceptanceLatchesTheRequest i s hf, Host.Outcome.next.injEq] at h
  rw [← h]
  cases i <;> simp [Instr.op]

/-- Every transition of every command is one of these edges. -/
theorem sequencerEdge_of_exec {i : Instr} {s t : State} (h : exec i s = .next t) : SequencerEdge s t := by
  rcases exec_cases h with ⟨hf, -⟩ | ⟨hf, rfl | rfl⟩ | ⟨hf, a, -, rfl⟩ | ⟨hf, rfl⟩ | ⟨hf, rfl⟩ | ⟨hf, rfl⟩ |
    ⟨hf, a, -, rfl⟩ | ⟨hf, rfl⟩ | ⟨hf, rfl⟩
  · exact .accept hf (fsm_of_exec_idle h hf)
  · rcases matchForSet_cases s with ⟨-, he⟩ | ⟨d, -, ⟨hp, he⟩ | ⟨-, he⟩⟩ <;> rw [he]
    · exact .answer (.inl hf) rfl
    · exact .enterPre hf rfl hp
    · exact .enterProgram (.inl hf) rfl
  · obtain ⟨x, r, he⟩ := matchForRound_responds s
    rw [he]
    exact .answer (.inl hf) rfl
  · exact .enterProgram (.inr hf) rfl
  · exact .enterWait hf rfl
  · rcases waitStep_cases s with ⟨-, he⟩ | ⟨ht, he⟩ <;> rw [he]
    · exact .enterCheck hf rfl
    · exact .tick hf hf rfl ht
  · rcases checkStep_cases s with ⟨e, -, he⟩ | ⟨hw, hp, he⟩ | ⟨-, -, he⟩ <;> rw [he]
    · exact .answer (.inr (.inl hf)) rfl
    · exact .enterPost hf rfl hw (by simpa using hp)
    · exact .answer (.inr (.inl hf)) rfl
  · exact .answer (.inr (.inr (.inl hf))) rfl
  · exact .answer (.inr (.inr (.inr hf))) rfl
  · rcases consumeResponse_cases s with ⟨-, he⟩ | ⟨-, he⟩ <;> rw [he]
    · exact .consume hf (.inl rfl)
    · exact .consume hf (.inr hf)

/-- Only one edge enters PRE (R88, R89). -/
theorem SequencerEdge.needsPre {s t : State} (h : SequencerEdge s t) (ht : t.fsm = .pre) : needsPre s = true := by
  cases h
  case enterPre guard => exact guard
  -- every other edge leads elsewhere
  all_goals simp_all

/-- Only one edge enters POST (R88, R94). -/
theorem SequencerEdge.passed_needsPost {s t : State} (h : SequencerEdge s t) (ht : t.fsm = .post) :
    s.fsm = .check ∧ statusError (statusAnswer s) = none ∧ needsPost s = true := by
  cases h
  case enterPost hs _ passed guard => exact ⟨hs, passed, guard⟩
  -- every other edge leads elsewhere
  all_goals simp_all

/-- Settles O30: PRE's one write, written out, and the guard of the edge into PRE. -/
theorem preWritesDivideByTwo : Obligations.PreWritesDivideByTwo :=
  ⟨fun f _ _ hf hb => exec_setRate_pre f hf hb,
    fun _ s _ h ht => (needsPre_iff s).1 ((sequencerEdge_of_exec h).needsPre ht)⟩

/-- Settles O35: POST's write and response, written out, and the guard of the edge into POST. -/
theorem postWritesDivideByOne : Obligations.PostWritesDivideByOne := by
  refine ⟨fun f s b hf hb => exec_setRate_post f hf hb, fun i s t h ht => ?_⟩
  obtain ⟨hf, hw, hp⟩ := (sequencerEdge_of_exec h).passed_needsPost ht
  obtain ⟨hl, he⟩ := (statusError_none_iff _).1 hw
  exact ⟨hf, hl, he, (needsPost_iff s).1 hp⟩

/-! ## Every command is answered (R96, R106) -/

/-- The most steps a command in progress takes from `s` to its response (R83, R91). -/
def stepsToAnswer (s : State) : Nat :=
  match s.fsm with
  | .matching => waitTicks s.config + 6
  | .pre => waitTicks s.config + 5
  | .program => waitTicks s.config + 4
  | .wait => waitTicks s.config - s.waitTimer + 3
  | .check => 2
  | .post => 1
  | .getrd => 1
  | .idle => 0
  | .resp => 0

theorem inProgress_iff (s : State) : inProgress s = true ↔ s.fsm ≠ .idle ∧ s.fsm ≠ .resp := by
  simp [inProgress]

theorem stepsToAnswer_le (s : State) : stepsToAnswer s ≤ waitTicks s.config + 6 := by
  unfold stepsToAnswer
  split <;> omega

/-- Every edge from a command in progress leaves fewer steps, and does not lead back to IDLE. -/
theorem SequencerEdge.stepsToAnswer_lt {s t : State} (h : SequencerEdge s t) (hc : t.config = s.config)
    (hp : inProgress s = true) : stepsToAnswer t < stepsToAnswer s ∧ t.fsm ≠ .idle := by
  obtain ⟨hi, hr⟩ := (inProgress_iff s).1 hp
  cases h with
  | accept hs => exact absurd hs hi
  | answer hs ht => rcases hs with hs | hs | hs | hs <;> simp [stepsToAnswer, hs, ht]
  | enterPre hs ht => simp [stepsToAnswer, hs, ht, hc]
  | enterProgram hs ht => rcases hs with hs | hs <;> simp [stepsToAnswer, hs, ht, hc]
  | enterWait hs ht => simp [stepsToAnswer, hs, ht, hc]
  | tick hs ht timer guard => simp [stepsToAnswer, hs, ht, hc, timer]; omega
  | enterCheck hs ht => simp [stepsToAnswer, hs, ht]
  | enterPost hs ht => simp [stepsToAnswer, hs, ht]
  | consume hs => exact absurd hs hr

/-- No transition of a command in progress writes the request latch or the reset input (R21). -/
theorem exec_keeps_request {i : Instr} {s t : State} (h : exec i s = .next t) (hi : s.fsm ≠ .idle) :
    t.reqOp = s.reqOp ∧ t.reqFreq = s.reqFreq ∧ t.resetIn = s.resetIn := by
  cases i with
  | setRate f =>
    obtain ⟨-, hreset, -, -, -, -, hreq, -⟩ := setRateFrame f s t h
    obtain ⟨hop, hfreq, -⟩ := hreq hi
    exact ⟨hop, hfreq, hreset⟩
  | getRate x | roundRate x =>
    obtain ⟨-, -, -, -, -, -, -, hreset, -, -, -, -, hreq, -⟩ := queriesLeaveThePllAlone _ s t (by nofun) h
    obtain ⟨hop, hfreq, -⟩ := hreq hi
    exact ⟨hop, hfreq, hreset⟩

/-- Out of reset, a command in progress moves on with the same request. -/
theorem step_of_inProgress {s : State} (h : s.Inv) (hr : s.resetIn = false) (hp : inProgress s = true) :
    ∃ t, step s = .next t ∧ stepsToAnswer t < stepsToAnswer s ∧ t.fsm ≠ .idle ∧
      t.reqOp = s.reqOp ∧ t.reqFreq = s.reqFreq ∧ t.resetIn = s.resetIn := by
  obtain ⟨hi, -⟩ := (inProgress_iff s).1 hp
  rcases noStateIsStuck s h with ⟨t, ht⟩ | ⟨-, hidle, -⟩
  · have he : exec (latchedCommand s) s = .next t := by rw [← step_inProgress h.built hr hi, ht]
    obtain ⟨hlt, hne⟩ := (sequencerEdge_of_exec he).stepsToAnswer_lt (exec_config he) hp
    exact ⟨t, ht, hlt, hne, exec_keeps_request he hi⟩
  · exact absurd hidle hi

/-- From an accepted command the run reaches RESP within the steps left, the request latch unchanged. -/
theorem run_to_resp {s : State} (h : s.Inv) (hr : s.resetIn = false) (hi : s.fsm ≠ .idle) :
    ∃ k t, k ≤ stepsToAnswer s ∧ run k s = .next t ∧ t.fsm = .resp ∧ t.reqOp = s.reqOp ∧ t.reqFreq = s.reqFreq := by
  induction hn : stepsToAnswer s using Nat.strong_induction_on generalizing s with
  | _ n ih =>
    by_cases hf : s.fsm = .resp
    · exact ⟨0, s, Nat.zero_le n, rfl, hf, rfl, rfl⟩
    · obtain ⟨t, ht, hlt, hne, hop, hfreq, hreset⟩ := step_of_inProgress h hr ((inProgress_iff s).2 ⟨hi, hf⟩)
      obtain ⟨k, u, hk, hrun, hu, hop', hfreq'⟩ :=
        ih _ (hn ▸ hlt) (step_keeps_inv h ht) (hreset.trans hr) hne rfl
      exact ⟨k + 1, u, by omega, (run_succ k ht).trans hrun, hu, hop'.trans hop, hfreq'.trans hfreq⟩

/-- Settles O51: the steps left are within the bound. -/
theorem everyCommandIsAnswered : Obligations.EveryCommandIsAnswered := by
  intro s h hr hp
  obtain ⟨k, t, hk, hrun⟩ := run_to_resp h hr ((inProgress_iff s).1 hp).1
  exact ⟨k, t, hk.trans (stepsToAnswer_le s), hrun⟩

/-! ## A dutiful table's side of the threshold (R99, R121) -/

/-- A request at or below the threshold programs an entry at or below it. -/
theorem target_le_threshold {c : Config} {f : Freq} {d : DividerConfiguration} (hk : tableKeepsSides c)
    (hf : f.toNat ≤ c.thresholdHz.toNat) (hd : chosenEntry c.table f = some d) :
    d.target.toNat ≤ c.thresholdHz.toNat := by
  obtain ⟨hr, -⟩ := earliestNearest_of_chosenEntry hd
  have ht := hk f d.target (by simpa [aboveThreshold] using hf) hr
  simpa [aboveThreshold] using ht

/-- With the invariant, POST holds the entry of a request at or below the threshold. -/
theorem cfg_target_le_threshold_of_post {s : State} (h : s.Inv) (hk : tableKeepsSides s.config) (hf : s.fsm = .post) :
    s.cfg.target.toNat ≤ s.config.thresholdHz.toNat :=
  target_le_threshold hk ((needsPost_iff s).1 (h.postSide hf)).2 (h.entry (by simp [hf, holdsEntry]))

/-- The only transition that adds the write of divide-by-1 to AUX is POST's: CTRL and STATUS lie elsewhere (R44), and PRE
writes the other code (R115 item 6). -/
theorem post_of_auxDiv1_written {i : Instr} {s t : State} {b : Nat} (hc : instanceExists s.config = true)
    (hb : s.config.auxBase = some b) (h : exec i s = .next t)
    (hw : t.history = s.history ++ [.write b s.config.auxDiv1Code]) :
    s.fsm = .post ∧ t = respond .ok s.cfg.target (writeAux b s.config.auxDiv1Code s) := by
  obtain ⟨-, -, -, -, hcodes, -⟩ := instanceExists_parts hc
  have hapart := mainRegion_auxRegion_disjoint hc hb
  rcases exec_cases h with ⟨-, ht⟩ | ⟨-, ht | ht⟩ | ⟨-, a, -, ht⟩ | ⟨-, ht⟩ | ⟨-, ht⟩ | ⟨-, ht⟩ | ⟨hf, a, ha, ht⟩ |
    ⟨-, ht⟩ | ⟨-, ht⟩
  -- POST
  case inr.inr.inr.inr.inr.inr.inl =>
    cases ha.symm.trans hb
    exact ⟨hf, ht⟩
  -- WAIT, which writes no register
  case inr.inr.inr.inr.inl =>
    rcases waitStep_cases s with ⟨-, he⟩ | ⟨-, he⟩ <;> simp [ht, he] at hw
  all_goals rw [ht] at hw
  -- PRE and PROGRAM, whose writes are others
  case inr.inr.inl => simp [hcodes.symm] at hw
  case inr.inr.inr.inl =>
    simp only [programStep_history, List.append_cancel_left_eq, List.cons.injEq, Event.write.injEq] at hw
    omega
  all_goals simp [getRead_eq] at hw

/-- A SET_RATE whose last event is a write has taken POST: without it the STATUS read is last. -/
theorem setRatePost_of_last_write {l h : List Event} {c : Config} {f : Freq} {d : DividerConfiguration} {w v : Word}
    {b : Nat} (hl : l ++ setRateEvents c f d w = h ++ [.write b v]) : setRatePost c f w = true := by
  by_contra hq
  rw [append_setRateEvents, postCode, if_neg hq] at hl
  simpa using congrArg List.getLast? hl

/-- Settles O45: in POST by the invariant, at a step by the write it adds, over the run by its last event. -/
theorem dutifulTableNeverOverclocks : Obligations.DutifulTableNeverOverclocks := by
  refine ⟨fun s => cfg_target_le_threshold_of_post, fun s t b h hk hb hs hw => ?_, fun s f d h hk hd => ?_⟩
  · obtain ⟨-, ⟨-, rfl⟩ | ⟨-, -, rfl⟩ | ⟨-, i, -, he⟩⟩ := step_cases hs
    · simp at hw
    · simp at hw
    · obtain ⟨hf, rfl⟩ := post_of_auxDiv1_written h.built hb he hw
      have hle := cfg_target_le_threshold_of_post h hk hf
      exact ⟨hf, hle, hle⟩
  · refine ⟨setRateAnswered f d s, run_setRate h hd, rfl, fun b l _ hl => ?_⟩
    obtain ⟨-, hf, -⟩ := (setRatePost_iff _ _ _).1 (setRatePost_of_last_write hl)
    exact target_le_threshold hk hf hd

end Sys2Proof.Machine
end

section
/-!
PROOFS. Where a command's meaning stops: off its path, and in PRE and POST without an `AUX_BASE`.
-/

namespace Sys2Proof.Machine

/-- Off its path a command has no transition (R83). -/
theorem exec_of_offPath {i : Instr} {s : State} (hoff : onPath i.op s.fsm = false) :
    exec i s = .fault (.noTransition s.fsm) := by
  cases i with
  | getRate x =>
    cases hf : s.fsm
    case idle | getrd | resp => simp [hf, Instr.op, onPath] at hoff
    all_goals simp [exec, execGetRate, hf]
  | setRate f =>
    cases hf : s.fsm
    case getrd => simp [exec, execSetRate, hf]
    all_goals simp [hf, Instr.op, onPath] at hoff
  | roundRate f =>
    cases hf : s.fsm
    case idle | matching | resp => simp [hf, Instr.op, onPath] at hoff
    all_goals simp [exec, execRoundRate, hf]

/-- The two states that write AUX are refused where it has no address (R115). -/
theorem exec_of_no_auxBase {i : Instr} {s : State} (hop : i.op = .setRate) (hf : s.fsm = .pre ∨ s.fsm = .post)
    (hb : s.config.auxBase = none) : exec i s = .refused .constructionFailed := by
  cases i with
  | setRate f => rcases hf with hf | hf <;> simp [exec, execSetRate, preStep, postStep, hf, hb]
  | getRate x | roundRate f => cases hop

/-- A command in any state stops off its path, is refused for want of an AUX address, or moves on. -/
theorem exec_outcome (i : Instr) (s : State) :
    (onPath i.op s.fsm = false ∧ exec i s = .fault (.noTransition s.fsm)) ∨
      (onPath i.op s.fsm = true ∧ exec i s = .refused .constructionFailed ∧
        i.op = .setRate ∧ (s.fsm = .pre ∨ s.fsm = .post) ∧ s.config.auxBase = none) ∨
      (onPath i.op s.fsm = true ∧ ∃ t, exec i s = .next t) := by
  cases hp : onPath i.op s.fsm with
  | false => exact .inl ⟨rfl, exec_of_offPath hp⟩
  | true =>
    by_cases haux : (s.fsm = .pre ∨ s.fsm = .post) ∧ s.config.auxBase = none
    · obtain ⟨hf, hb⟩ := haux
      have hentry : holdsEntry s.fsm = true := by rcases hf with hf | hf <;> rw [hf] <;> rfl
      have hop := (onPath_of_holdsEntry hentry).1 hp
      exact .inr (.inl ⟨rfl, exec_of_no_auxBase hop hf hb, hop, hf, hb⟩)
    · exact .inr (.inr ⟨rfl, exec_next_of_onPath hp fun hf =>
        Option.ne_none_iff_exists'.1 fun hb => haux ⟨hf, hb⟩⟩)

/-- Settles O37: each of the two stops from its own lemma, and exactly there by the three outcomes. -/
theorem offPathStatesStop : Obligations.OffPathStatesStop := by
  refine fun i s => ⟨⟨fun hoff => ⟨_, exec_of_offPath hoff⟩, fun ⟨r, hr⟩ => ?_⟩, exec_of_offPath, fun r =>
    ⟨fun hr => ?_, fun ⟨hreason, hop, hf, hb⟩ => hreason ▸ exec_of_no_auxBase hop hf hb⟩⟩
  -- a fault
  · rcases exec_outcome i s with ⟨hoff, -⟩ | ⟨-, he, -⟩ | ⟨-, t, he⟩
    · exact hoff
    all_goals cases he.symm.trans hr
  -- a refusal
  · rcases exec_outcome i s with ⟨-, he⟩ | ⟨-, he, hlacks⟩ | ⟨-, t, he⟩
    · cases he.symm.trans hr
    · cases he.symm.trans hr
      exact ⟨rfl, hlacks⟩
    · cases he.symm.trans hr

end Sys2Proof.Machine
end
